-- ==== Sys2Proof/Word.lean ====
section
/-! DEFINITION. The word types of the bridge's frames and data. -/
namespace Sys2Proof

/-- One byte of a frame or record (R173). -/
abbrev Byte := BitVec 8

/-- One sector, 512 bytes: byte j of the sector stands in bits 8 × j to 8 × j + 7. -/
abbrev Sector := BitVec 4096

end Sys2Proof
end

