-- ==== Sys2Proof/Syntax.lean ====
section
/-! DEFINITION. The commands of the bridge: one constructor of `Instr` per row of spec/opcode_table.json. -/
namespace Sys2Proof

/-- The header fields of a request frame (R174), but for the operation code, which the command names.
The slot occupies four bits. A frame too short to hold a field carries no such field; the value here is then unused. -/
structure Header where
  tag   : Byte
  slot  : BitVec 4
  count : Byte
  addr  : BitVec 32
deriving DecidableEq, Repr

/-- What a drive adapter reports for one operation (R21). Data is a list of sectors in block and lane order;
`masks` names, per block, the sectors that could not be read (sector k by bit k). -/
inductive Report where
  | good (data : List Sector)
  | unreadable (data : List Sector) (masks : List Byte)
  | fault
deriving DecidableEq, Repr

/-- A command. A frame's `len` is the length the link reports (R174). The management commands carry the frame's
header and the bytes of the command record after its command code (R177). -/
inductive Instr where
  /-- READ (R47): a READ request frame. -/
  | read (h : Header) (len : Nat)
  /-- WRITE (R47): a WRITE request frame with its payload as sectors. -/
  | write (h : Header) (len : Nat) (data : List Sector)
  /-- FLUSH (R47): a FLUSH request frame. -/
  | flush (h : Header) (len : Nat)
  /-- UNKNOWN_OPERATION_FRAME (R42): a frame with operation code 0 or 5 to 15. -/
  | unknownOperationFrame (tag : Byte) (op : BitVec 4) (len : Nat)
  /-- UNKNOWN_COMMAND (R157): a MANAGE frame whose whole command record is `record`, its code none of the twenty;
  the empty record is the MANAGE frame of 2 to 7 bytes (R174). -/
  | unknownCommand (h : Header) (record : List Byte)
  /-- IDENTIFY (R163). -/
  | identify (h : Header) (params : List Byte)
  /-- READ_STATUS (R164). -/
  | readStatus (h : Header) (params : List Byte)
  /-- LOAD_MAP (R3). -/
  | loadMap (h : Header) (params : List Byte)
  /-- COMMIT_MAP (R165). -/
  | commitMap (h : Header) (params : List Byte)
  /-- READ_MAP (R163). -/
  | readMap (h : Header) (params : List Byte)
  /-- SET_PACING (R129). -/
  | setPacing (h : Header) (params : List Byte)
  /-- READ_PACING (R132). -/
  | readPacing (h : Header) (params : List Byte)
  /-- SET_POLICY (R162). -/
  | setPolicy (h : Header) (params : List Byte)
  /-- START_REBUILD (R102). -/
  | startRebuild (h : Header) (params : List Byte)
  /-- STOP_REBUILD (R103). -/
  | stopRebuild (h : Header) (params : List Byte)
  /-- ABANDON_REBUILD (R104). -/
  | abandonRebuild (h : Header) (params : List Byte)
  /-- FAIL_MEMBER (R31). -/
  | failMember (h : Header) (params : List Byte)
  /-- RESTORE_PORT (R33). -/
  | restorePort (h : Header) (params : List Byte)
  /-- CLEAR_HEALTH (R34). -/
  | clearHealth (h : Header) (params : List Byte)
  /-- LOAD_MILESTONES (R145). -/
  | loadMilestones (h : Header) (params : List Byte)
  /-- READ_MILESTONES (R144). -/
  | readMilestones (h : Header) (params : List Byte)
  /-- TAKE_LOST (R140). -/
  | takeLost (h : Header) (params : List Byte)
  /-- SET_NOTICES (R169). -/
  | setNotices (h : Header) (params : List Byte)
  /-- CLEAR_STICKY (R170). -/
  | clearSticky (h : Header) (params : List Byte)
  /-- RESET_BRIDGE (R171). -/
  | resetBridge (h : Header) (params : List Byte)
  /-- MAP_INSTALLATION (R5): the router's report to a COMMIT_MAP in its drain. -/
  | mapInstallation
  /-- BRIDGE_RESET (R171). -/
  | bridgeReset
  /-- POWER_ON_RESET (R38). -/
  | powerOnReset
  /-- CHANNEL_RESET (R60). -/
  | channelReset
  /-- UPSTREAM_LINK_DOWN (R60). -/
  | upstreamLinkDown
  /-- UPSTREAM_LINK_UP (R60). -/
  | upstreamLinkUp
  /-- DRIVE_LINK_UP (R28). -/
  | driveLinkUp (port : Fin 10)
  /-- DRIVE_LINK_DOWN (R29). -/
  | driveLinkDown (port : Fin 10)
  /-- DRIVE_COMPLETION (R22): the completion of the operation with this identity on this port. -/
  | driveCompletion (port : Fin 10) (id : Nat) (report : Report)
  /-- DRIVE_TIMEOUT (R24): the deadline of the entry with this identity expires. -/
  | driveTimeout (port : Fin 10) (id : Nat)
  /-- SETTLE_TIMER_EXPIRY (R36). -/
  | settleTimerExpiry
  /-- TICK (R123). -/
  | tick
  /-- PERIOD_END (R124). -/
  | periodEnd
  /-- NOTICE_GAP_ELAPSED (R59). -/
  | noticeGapElapsed
  /-- RESPONSE_FRAME_SENT (R58). -/
  | responseFrameSent
  /-- NOTICE_FRAME_SENT (R153). -/
  | noticeFrameSent
  /-- LOCK_GRANTED (R66): the lock of this context. -/
  | lockGranted (ctx : Fin 8)
  /-- FRAME_TOO_SHORT (R174): a frame of 0 bytes (no first byte) or of 1 byte. -/
  | frameTooShort (first : Option Byte)
deriving DecidableEq, Repr

end Sys2Proof
end

