-- ==== Sys2Proof/WellFormed.lean ====
section
/-! DEFINITION. Which commands are real: the checks that a term of `Instr` stands for a frame or event that exists. -/
namespace Sys2Proof

/-- The operation codes the channel port knows (R174): 1 READ, 2 WRITE, 3 FLUSH, 4 MANAGE. -/
def knownOperation (op : BitVec 4) : Bool := 1 ≤ op.toNat && op.toNat ≤ 4

/-- The twenty command codes, 01h to 14h (R177). -/
def knownCommand (code : Byte) : Bool := 1 ≤ code.toNat && code.toNat ≤ 0x14

/-- The length of a request frame to a member with this block count and payload (R174). -/
def writeLength (h : Header) : Nat := 7 + 4096 * h.count.toNat

/-- A command that stands for a frame or event that can be:
a frame with an operation code has at least 2 bytes (R174); a WRITE frame of the right length carries 8 sectors a block;
an unknown operation or command has a code that is none of the known ones; an UNREADABLE report carries one mask a block
and 8 sectors a block (R21). -/
def Instr.wellFormed : Instr → Bool
  | .read _ len => 2 ≤ len
  | .flush _ len => 2 ≤ len
  | .write h len data => 2 ≤ len && (len != writeLength h || data.length == 8 * h.count.toNat)
  | .unknownOperationFrame _ op len => 2 ≤ len && !knownOperation op
  | .unknownCommand _ record => match record with
    | [] => true
    | code :: _ => !knownCommand code
  | .driveCompletion _ _ (.good data) => data.length % 8 == 0
  | .driveCompletion _ _ (.unreadable data masks) => data.length == 8 * masks.length
  | .driveCompletion _ _ .fault => true
  | .identify _ _ | .readStatus _ _ | .loadMap _ _ | .commitMap _ _ | .readMap _ _ | .setPacing _ _
  | .readPacing _ _ | .setPolicy _ _ | .startRebuild _ _ | .stopRebuild _ _ | .abandonRebuild _ _
  | .failMember _ _ | .restorePort _ _ | .clearHealth _ _ | .loadMilestones _ _ | .readMilestones _ _
  | .takeLost _ _ | .setNotices _ _ | .clearSticky _ _ | .resetBridge _ _ => true
  | .mapInstallation | .bridgeReset | .powerOnReset | .channelReset | .upstreamLinkDown | .upstreamLinkUp => true
  | .driveLinkUp _ | .driveLinkDown _ | .driveTimeout _ _ | .settleTimerExpiry | .tick | .periodEnd => true
  | .noticeGapElapsed | .responseFrameSent | .noticeFrameSent | .lockGranted _ | .frameTooShort _ => true

/-- Whether the length of a READ, WRITE or FLUSH frame is the one its operation calls for (R174). -/
def Instr.lengthFits : Instr → Bool
  | .read _ len | .flush _ len => len == 7
  | .write h len _ => len == writeLength h
  | .unknownOperationFrame .. | .unknownCommand .. => true
  | .identify .. | .readStatus .. | .loadMap .. | .commitMap .. | .readMap .. | .setPacing .. | .readPacing ..
  | .setPolicy .. | .startRebuild .. | .stopRebuild .. | .abandonRebuild .. | .failMember .. | .restorePort ..
  | .clearHealth .. | .loadMilestones .. | .readMilestones .. | .takeLost .. | .setNotices .. | .clearSticky ..
  | .resetBridge .. => true
  | .mapInstallation | .bridgeReset | .powerOnReset | .channelReset | .upstreamLinkDown | .upstreamLinkUp => true
  | .driveLinkUp _ | .driveLinkDown _ | .driveCompletion .. | .driveTimeout .. => true
  | .settleTimerExpiry | .tick | .periodEnd | .noticeGapElapsed | .responseFrameSent | .noticeFrameSent => true
  | .lockGranted _ | .frameTooShort _ => true

end Sys2Proof
end

