-- ==== Sys2Proof/Decode.lean ====
section
/-! DEFINITION. Reading and writing the request frames as bytes (R173, R174, R177), and the table's words. -/
namespace Sys2Proof

/-- The command a word spells by the table's bits: no row of spec/opcode_table.json gives bits, so no word spells one
(notes/assumptions/30.md). -/
def decodeTableWord (_nbits _w : Nat) : Option Instr := none

/-! ## From bytes to a command -/

/-- The sector whose bytes these are, byte 0 first. -/
def sectorOfBytes (bs : List Byte) : Sector := BitVec.ofNat 4096 (bs.foldr (fun b n => b.toNat + 256 * n) 0)

/-- The sectors of a payload: sector k is its bytes 512 × k to 512 × k + 511 (R174). -/
def sectorsOfBytes (bs : List Byte) : List Sector :=
  (List.range (bs.length / 512)).map (fun k => sectorOfBytes ((bs.drop (512 * k)).take 512))

/-- Byte j of a frame, 0 where the frame is shorter. -/
def frameByte (bs : List Byte) (j : Nat) : Byte := bs.getD j 0

/-- The header fields of a frame (R174). -/
def headerOf (bs : List Byte) : Header :=
  { tag := frameByte bs 0
    slot := (frameByte bs 1).setWidth 4
    count := frameByte bs 2
    addr := BitVec.ofNat 32 ((frameByte bs 3).toNat + 256 * (frameByte bs 4).toNat
      + 65536 * (frameByte bs 5).toNat + 16777216 * (frameByte bs 6).toNat) }

/-- The operation code of a frame: the upper four bits of byte 1 (R174). -/
def operationOf (bs : List Byte) : BitVec 4 := ((frameByte bs 1) >>> 4).setWidth 4

/-- The command of a command record (R177). -/
def commandOf (h : Header) (record : List Byte) : Instr :=
  match record with
  | [] => .unknownCommand h []
  | code :: ps =>
    match code.toNat with
    | 0x01 => .identify h ps
    | 0x02 => .readStatus h ps
    | 0x03 => .loadMap h ps
    | 0x04 => .commitMap h ps
    | 0x05 => .readMap h ps
    | 0x06 => .setPacing h ps
    | 0x07 => .readPacing h ps
    | 0x08 => .setPolicy h ps
    | 0x09 => .startRebuild h ps
    | 0x0A => .stopRebuild h ps
    | 0x0B => .abandonRebuild h ps
    | 0x0C => .failMember h ps
    | 0x0D => .restorePort h ps
    | 0x0E => .clearHealth h ps
    | 0x0F => .loadMilestones h ps
    | 0x10 => .readMilestones h ps
    | 0x11 => .takeLost h ps
    | 0x12 => .setNotices h ps
    | 0x13 => .clearSticky h ps
    | 0x14 => .resetBridge h ps
    | _ => .unknownCommand h (code :: ps)

/-- The command that a request frame of these bytes is (R174): total on any bytes. The payload of a WRITE frame of the
wrong length is not taken, and no sectors are read from it. -/
def decodeFrame (bs : List Byte) : Instr :=
  match bs with
  | [] => .frameTooShort none
  | [b] => .frameTooShort (some b)
  | _ :: _ :: _ =>
    let h := headerOf bs
    match (operationOf bs).toNat with
    | 1 => .read h bs.length
    | 2 => .write h bs.length (if bs.length = writeLength h then sectorsOfBytes (bs.drop 7) else [])
    | 3 => .flush h bs.length
    | 4 => commandOf h (bs.drop 7)
    | _ => .unknownOperationFrame h.tag (operationOf bs) bs.length

/-! ## From a command to bytes -/

/-- The bytes of a sector, byte 0 first. -/
def bytesOfSector (x : Sector) : List Byte := (List.range 512).map (fun j => (x >>> (8 * j)).setWidth 8)

/-- The seven header bytes of a frame (R174). -/
def headerBytes (op : BitVec 4) (h : Header) : List Byte :=
  [h.tag, op ++ h.slot, h.count, h.addr.setWidth 8, (h.addr >>> 8).setWidth 8, (h.addr >>> 16).setWidth 8,
    (h.addr >>> 24).setWidth 8]

/-- A MANAGE frame (R174, R177). -/
def manageFrame (h : Header) (record : List Byte) : List Byte := headerBytes 4 h ++ record

/-- The bytes of the frame a command is, where it is a frame of the length its operation calls for (R174, R177). -/
def encodeFrame : Instr → Option (List Byte)
  | .read h _ => some (headerBytes 1 h)
  | .flush h _ => some (headerBytes 3 h)
  | .write h _ data => some (headerBytes 2 h ++ data.flatMap bytesOfSector)
  | .unknownCommand h record => some (manageFrame h record)
  | .identify h ps => some (manageFrame h (0x01 :: ps))
  | .readStatus h ps => some (manageFrame h (0x02 :: ps))
  | .loadMap h ps => some (manageFrame h (0x03 :: ps))
  | .commitMap h ps => some (manageFrame h (0x04 :: ps))
  | .readMap h ps => some (manageFrame h (0x05 :: ps))
  | .setPacing h ps => some (manageFrame h (0x06 :: ps))
  | .readPacing h ps => some (manageFrame h (0x07 :: ps))
  | .setPolicy h ps => some (manageFrame h (0x08 :: ps))
  | .startRebuild h ps => some (manageFrame h (0x09 :: ps))
  | .stopRebuild h ps => some (manageFrame h (0x0A :: ps))
  | .abandonRebuild h ps => some (manageFrame h (0x0B :: ps))
  | .failMember h ps => some (manageFrame h (0x0C :: ps))
  | .restorePort h ps => some (manageFrame h (0x0D :: ps))
  | .clearHealth h ps => some (manageFrame h (0x0E :: ps))
  | .loadMilestones h ps => some (manageFrame h (0x0F :: ps))
  | .readMilestones h ps => some (manageFrame h (0x10 :: ps))
  | .takeLost h ps => some (manageFrame h (0x11 :: ps))
  | .setNotices h ps => some (manageFrame h (0x12 :: ps))
  | .clearSticky h ps => some (manageFrame h (0x13 :: ps))
  | .resetBridge h ps => some (manageFrame h (0x14 :: ps))
  | .frameTooShort first => some first.toList
  | .unknownOperationFrame .. => none
  | .mapInstallation | .bridgeReset | .powerOnReset | .channelReset | .upstreamLinkDown | .upstreamLinkUp => none
  | .driveLinkUp _ | .driveLinkDown _ | .driveCompletion .. | .driveTimeout .. => none
  | .settleTimerExpiry | .tick | .periodEnd | .noticeGapElapsed | .responseFrameSent | .noticeFrameSent => none
  | .lockGranted _ => none

end Sys2Proof
end

