-- ==== Sys2Proof/Config.lean ====
section
/-! DEFINITION. The bounds and settings the manual fixes, and the model's free value. -/
namespace Sys2Proof.Config

/-- Entries of a port's operation list (R18). -/
abbrev listBound : Nat := 72
/-- Entries of a list outstanding at the drive (R20). -/
abbrev outstandingBound : Nat := 32
/-- Highest error count (R25). -/
abbrev errorBound : Nat := 15
/-- Highest upstream tag (R40). -/
abbrev tagBound : Nat := 63
/-- Responses of the refusal list (R42). -/
abbrev refusalBound : Nat := 4
/-- Requests of the held queue (R68). -/
abbrev heldBound : Nat := 32
/-- Contexts that DEGRADED and FILL may hold together (R77). -/
abbrev foregroundBound : Nat := 6
/-- Stripes of the ahead set (R110). -/
abbrev aheadBound : Nat := 64
/-- Entries of the lost block list, reservations included (R137). -/
abbrev lostBound : Nat := 128
/-- Notices of the notice queue (R150). -/
abbrev noticeBound : Nat := 16
/-- Entries of the milestone table (R144). -/
abbrev milestoneBound : Nat := 16
/-- Commands of the management waiting list (R156). -/
abbrev waitingBound : Nat := 4
/-- Where the foreground count saturates (R128). -/
abbrev fgBound : Nat := 65535
/-- Highest StripeCount (R2). -/
abbrev stripeCountBound : Nat := 67108863
/-- The part code IDENTIFY returns (R163). -/
abbrev partCode : Nat := 0x2410
/-- The revision IDENTIFY returns (R163). -/
abbrev revision : Nat := 3

/-- How many internal effects one command may have before the model calls it unsettled. DESIGN CHOICE, safe: see
notes/assumptions/6.md. -/
abbrev cascadeBound : Nat := 65536

/-- The sector at this place of a READ completion that carries less data than the operation's block count: the spec
does not say what the bridge then holds. DESIGN CHOICE, a free value: see notes/assumptions/19.md.
The arguments are the port, the identity of the operation and the place of the sector. -/
opaque freeSector : Fin 10 → Nat → Nat → Sector

end Sys2Proof.Config
end

