-- ==== Sys2Proof/Machine/State.lean ====
section
/-! DEFINITION. The state of the bridge as plain data, the reasons a step can stop, and the state after reset. -/
namespace Sys2Proof.Machine

/-- A drive port, 0 to 9. -/
abbrev PortId := Fin 10
/-- A reconstruction context, 0 to 7 (R76). -/
abbrev CtxId := Fin 8

/-! ## Frames the channel port takes -/

/-- The three operations of a member request (R174). -/
inductive MemberOp where
  | read | write | flush
deriving DecidableEq, Repr

/-- A request frame as the channel port sees it (R174). `record` is the whole command record of a MANAGE frame,
empty where the frame is too short to hold one. -/
inductive Frame where
  | member (op : MemberOp) (h : Header) (len : Nat) (data : List Sector)
  | manage (h : Header) (record : List Byte)
  | unknownOperation (tag : Byte)
  | tooShort (tag : Byte)
deriving DecidableEq, Repr

/-! ## Statuses and responses -/

/-- The statuses of a response (R175). -/
inductive Status where
  | good | media | timeout | dataLost | range | span | noMember | busy | tagInUse | state | mapInvalid
  | spareUnfit | jobBound | format | unknown
deriving DecidableEq, Repr

/-- The payload of a response (R175): none, the sectors of a READ, or a result record. -/
inductive Payload where
  | none
  | sectors (data : List Sector)
  | record (bytes : List Byte)
deriving DecidableEq, Repr

/-- A response (R58): the first bad block offset and the sector mask are 0 but for MEDIA (R175). -/
structure Response where
  status    : Status
  badOffset : Nat := 0
  mask      : Byte := 0
  payload   : Payload := .none
deriving DecidableEq, Repr

/-- An item of the response queue (R58): the response of an in-flight entry, or one of the refusal list. -/
inductive QueuedResponse where
  | entry (tag : Nat)
  | refusal (tag : Byte) (status : Status)
deriving DecidableEq, Repr

/-! ## Ports -/

/-- Port health (chapter 2). -/
inductive Health where
  | absent | online | failed
deriving DecidableEq, Repr

/-- A port's role (chapter 1, section 1.1). -/
inductive Role where
  | member (index : Nat)
  | spare
  | unused
deriving DecidableEq, Repr

/-- The four kinds of drive operation (R17, R21). -/
inductive OpKind where
  | read | write | markbad | flush
deriving DecidableEq, Repr

/-- Who receives an operation's outcome (R17). A context's serial number tells one taking of it from another. -/
inductive Originator where
  | tag (tag : Nat)
  | ctx (ctx : CtxId) (serial : Nat)
  | orphan
deriving DecidableEq, Repr

/-- What travels with an operation to the drive (R17): the data of a WRITE, the sector list of a MARKBAD. -/
inductive OpPayload where
  | none
  | sectors (data : List Sector)
  | marks (items : List (Nat × Byte))
deriving DecidableEq, Repr

/-- A drive operation (R17). -/
structure DriveOp where
  kind    : OpKind
  addr    : Nat
  count   : Nat
  orig    : Originator
  fgWrite : Bool
  payload : OpPayload
deriving DecidableEq, Repr

/-- What issuing an entry sets (R20, R22): its identity and its deadline, on the clock `now`. -/
structure Issue where
  id       : Nat
  deadline : Nat
deriving DecidableEq, Repr

/-- An entry of a port's operation list: waiting while `issue` is none, outstanding otherwise (R17). -/
structure ListEntry where
  op    : DriveOp
  issue : Option Issue
deriving DecidableEq, Repr

/-- A drive port unit (chapter 2). `nextId` is the model's: the identity its next issued entry gets. -/
structure Port where
  link     : Bool
  health   : Health
  role     : Role
  bound    : Bool
  errors   : Nat
  list     : List ListEntry
  deferred : List DriveOp
  nextId   : Nat
deriving DecidableEq, Repr

/-! ## Notices -/

/-- Why a member failed (R32). -/
inductive FailReason where
  | link | errors | command
deriving DecidableEq, Repr

/-- The states of the rebuild job (R99). -/
inductive JobState where
  | idle | armed | active | stopping | stopped | paused | halted | done
deriving DecidableEq, Repr

/-- The causes of a change of job state (R99). -/
inductive JobCause where
  | command | auto | lostFull | secondFault | spareLost | complete | reset
deriving DecidableEq, Repr

/-- The six kinds of notice with their fields (R148). -/
inductive Notice where
  | memberFailed (port : PortId) (member : Nat) (reason : FailReason)
  | jobState (state : JobState) (cause : JobCause) (w : Nat)
  | milestone (tag : Byte) (w : Nat)
  | lostAdded (stripe : Nat) (items : Nat)
  | lostFull
  | complete (target : Nat) (port : PortId)
deriving DecidableEq, Repr

/-- What the upstream transmitter is sending (R59): a response is the head of the response queue, which it leaves when
sent; a notice has left its queue. -/
inductive Transmitter where
  | idle
  | response
  | notice (n : Notice)
deriving DecidableEq, Repr

/-! ## The in-flight table -/

/-- The operation of an in-flight entry (R40). -/
inductive ReqOp where
  | read | write | flush | manage
deriving DecidableEq, Repr

/-- The state of an in-flight entry (R41). -/
inductive ReqState where
  | routing | held | waiting | issued | answered
deriving DecidableEq, Repr

/-- The stripe and offset of a mapped request (R8). -/
structure Place where
  stripe : Nat
  offset : Nat
deriving DecidableEq, Repr

/-- An entry of the in-flight table (R40). -/
structure InFlight where
  tag      : Nat
  slot     : Nat
  op       : ReqOp
  addr     : Nat
  count    : Nat
  place    : Option Place
  data     : List Sector
  state    : ReqState
  forward  : Option (PortId × OpKind)
  ctx      : Option CtxId
  response : Option Response
deriving DecidableEq, Repr

/-! ## Locks and contexts -/

/-- An entry of the stripe lock table (R62): GRANTED or DRAINING. Its kind is its context's. -/
structure Lock where
  ctx     : CtxId
  stripe  : Nat
  first   : Nat
  last    : Nat
  granted : Bool
  drain   : Nat
deriving DecidableEq, Repr

/-- A held request and the lock entry it names, by the owning context (R68). -/
structure Held where
  tag  : Nat
  lock : CtxId
deriving DecidableEq, Repr

/-- The kinds of context (R76). -/
inductive CtxKind where
  | sweep | degraded | fill
deriving DecidableEq, Repr

/-- The states of a context (R81). -/
inductive CtxState where
  | free | locking | reading | writing | marking
deriving DecidableEq, Repr

/-- One lane of a context (R76): its accumulator, and which inputs it has received. -/
structure Lane where
  acc        : Sector
  good       : Bool
  unreadable : Bool
  missing    : Bool
deriving DecidableEq, Repr

/-- The result class of a lane (R86). -/
inductive LaneClass where
  | good | lostUnreadable | lostMissing
deriving DecidableEq, Repr

/-- A set of cause flags (R76, R94). -/
structure Causes where
  unreadableSeen : Bool
  missingSeen    : Bool
  retried        : Bool
  poisonWritten  : Bool
deriving DecidableEq, Repr

/-- The originator of a context (R76): a tag, no request, or the window entry of this stripe. -/
inductive CtxOrigin where
  | tag (tag : Nat)
  | noRequest
  | window (stripe : Nat)
deriving DecidableEq, Repr

/-- A reconstruction context (R76). `sources` are the ports that gave an input that was not GOOD (R136).
`serial` and `stalled` are the model's: see notes/assumptions/18.md and 20.md. -/
structure Context where
  state        : CtxState
  kind         : CtxKind
  stripe       : Nat
  first        : Nat
  count        : Nat
  mask         : List PortId
  target       : Option PortId
  targetMember : Option Nat
  lanes        : List Lane
  classes      : List LaneClass
  flags        : Causes
  retries      : Vector Nat 10
  outstanding  : List PortId
  origin       : CtxOrigin
  sources      : List PortId
  serial       : Nat
  stalled      : Bool
deriving DecidableEq, Repr

/-! ## Maps, settings, the job -/

/-- A member map (R2). -/
structure MemberMap where
  stripBlocks : Nat
  stripeCount : Nat
  width       : Nat
  roles       : Vector Role 10
deriving DecidableEq, Repr

/-- The pacing modes (R122). -/
inductive Mode where
  | fixed | yield | burst
deriving DecidableEq, Repr

/-- A pacing record (R122). -/
structure PacingRecord where
  mode        : Mode
  tickSelect  : Nat
  periodTicks : Nat
  share       : Nat
  floor       : Nat
  weight      : Nat
deriving DecidableEq, Repr

/-- The pacing timer (R122). `tickDue` is the moment, on the clock `now`, at which the tick under way expires (R123). -/
structure Pacing where
  inForce       : PacingRecord
  staged        : PacingRecord
  stagedPending : Bool
  ticks         : Nat
  fg            : Nat
  budget        : Nat
  credit        : Nat
  tickDue       : Nat
deriving DecidableEq, Repr

/-- The policy record (R161). DriveTimeout is in units of 50 ms, SettleTime in seconds. -/
structure Policy where
  autoFail      : Bool
  failThreshold : Nat
  driveTimeout  : Nat
  retryLimit    : Nat
  autoStart     : Bool
  settleTime    : Nat
  aheadFill     : Bool
  sweepDepth    : Nat
deriving DecidableEq, Repr

/-- An entry of the sweep window (R108): IN_FLIGHT or DONE. -/
structure WindowEntry where
  stripe : Nat
  done   : Bool
deriving DecidableEq, Repr

/-- The rebuild job (R99). `settle` is the moment a running settle timer expires; `awaiting` the tag of the awaiting STOP. -/
structure Job where
  state    : JobState
  cause    : JobCause
  target   : Option Nat
  armed    : Option Nat
  spare    : Option PortId
  w        : Nat
  n        : Nat
  window   : List WindowEntry
  ahead    : List Nat
  settle   : Option Nat
  awaiting : Option Nat
deriving DecidableEq, Repr

/-- The cause of a lost-block entry (R135). -/
inductive LostCause where
  | unreadable | missing | both
deriving DecidableEq, Repr

/-- An entry of the lost block list (R135). -/
structure LostEntry where
  stripe  : Nat
  target  : Nat
  cause   : LostCause
  sources : List Nat
  items   : List (Nat × Byte)
deriving DecidableEq, Repr

/-- The last reset kind (R160). -/
inductive ResetKind where
  | power | bridge | channel
deriving DecidableEq, Repr

/-- How the command in progress stands (R158): taken, a COMMIT_MAP in its drain, an answered RESET_BRIDGE. -/
inductive Phase where
  | taken | draining | resetting
deriving DecidableEq, Repr

/-! ## The state, block by block -/

/-- The channel port (R58, R59). `lastNotice` is when the previous notice frame finished sending;
`linkFrames` are the frames the link holds, oldest first (R42). -/
structure Channel where
  responses  : List QueuedResponse
  tx         : Transmitter
  lastNotice : Option Nat
  linkFrames : List Frame
  up         : Bool
deriving DecidableEq, Repr

/-- The stripe lock table and the held queue (R62, R68). -/
structure LockTable where
  locks : List Lock
  held  : List Held
deriving DecidableEq, Repr

/-- The reconstruction engine (R76, R79, R94). `owed` is the context that a request has taken and whose lock request is
still to come (R63); `late`, the model's own, says of each coming turn of a lock request whether it is put off: see
notes/assumptions/10.md. -/
structure Engine where
  ctxs     : Vector Context 8
  waitList : List Nat
  sticky   : Causes
  owed     : Option CtxId
  late     : List Bool
deriving DecidableEq, Repr

/-- The lost block list (R135). -/
structure LostList where
  entries      : List LostEntry
  reservations : Nat
deriving DecidableEq, Repr

/-- A milestone (R144). -/
structure Milestone where
  target : Nat
  tag    : Byte
deriving DecidableEq, Repr

/-- The milestone table and the notice queue (chapter 9). Bit c − 1 of `mask` enables kind code c. -/
structure NoticeBlock where
  milestones : List Milestone
  queue      : List Notice
  mask       : BitVec 6
  gap        : Nat
  lost       : Bool
deriving DecidableEq, Repr

/-- The management target (chapter 10). A waiting command is kept as its tag and its record. -/
structure Target where
  current   : Option (Nat × Phase)
  waiting   : List (Nat × List Byte)
  staged    : MemberMap
  committed : MemberMap
  policy    : Policy
  lastError : Option Status
  lastReset : ResetKind
deriving DecidableEq, Repr

/-- The bridge. `now` is the model's clock in microseconds since the last power-on or bridge reset
(notes/assumptions/2.md); `pending` the queue of commands not yet taken. -/
structure State where
  now     : Nat
  channel : Channel
  table   : List InFlight
  slt     : LockTable
  engine  : Engine
  ports   : Vector Port 10
  job     : Job
  pacing  : Pacing
  lost    : LostList
  notices : NoticeBlock
  target  : Target
  pending : List Instr
deriving DecidableEq, Repr

/-! ## Why a step can stop -/

/-- The faults of the model. -/
inductive Fault where
  /-- Raised by any command whose effects do not come to rest within `Config.cascadeBound` internal effects: the bridge
  would act for ever without taking another command. No state the rules lead to is known to do so. Safe: the model stops
  where the spec gives no end. -/
  | unsettled
deriving DecidableEq, Repr

/-- The refusals of the model. -/
inductive Refusal where
  /-- Raised by a command that has no meaning in the model yet: none at present. Safe. -/
  | notModelled (mnemonic : String)
deriving DecidableEq, Repr

/-! ## Reset values -/

/-- The empty map (R2). -/
def MemberMap.empty : MemberMap :=
  { stripBlocks := 0, stripeCount := 0, width := 0, roles := Vector.replicate 10 .unused }

/-- No cause flag set (R76, R94). -/
def Causes.none : Causes :=
  { unreadableSeen := false, missingSeen := false, retried := false, poisonWritten := false }

/-- A FREE context (R76, R97): it holds no meaningful value but its state; `serial` counts its takings. -/
def Context.blank (serial : Nat) : Context :=
  { state := .free, kind := .sweep, stripe := 0, first := 0, count := 0, mask := [], target := .none
    targetMember := .none, lanes := [], classes := [], flags := .none, retries := Vector.replicate 10 0
    outstanding := [], origin := .noRequest, sources := [], serial, stalled := false }

/-- A port after a power-on or bridge reset (R38), its link and its next identity as they stand. -/
def Port.afterReset (link : Bool) (nextId : Nat) : Port :=
  { link, health := if link then .online else .absent, role := .unused, bound := false, errors := 0
    list := [], deferred := [], nextId }

/-- The default pacing record (R122, R133). -/
def PacingRecord.default : PacingRecord :=
  { mode := .yield, tickSelect := 6, periodTicks := 100, share := 64, floor := 8, weight := 16 }

/-- The pacing timer after a power-on or bridge reset (R133): the first tick lasts 1,024 µs. -/
def Pacing.afterReset : Pacing :=
  { inForce := .default, staged := .default, stagedPending := false, ticks := 0, fg := 0, budget := 0, credit := 0
    tickDue := 1024 }

/-- The default policy record (R161). -/
def Policy.default : Policy :=
  { autoFail := true, failThreshold := 3, driveTimeout := 40, retryLimit := 1, autoStart := false, settleTime := 30
    aheadFill := true, sweepDepth := 4 }

/-- The job after a power-on or bridge reset (R120). -/
def Job.afterReset : Job :=
  { state := .idle, cause := .reset, target := .none, armed := .none, spare := .none, w := 0, n := 0, window := []
    ahead := [], settle := .none, awaiting := .none }

/-- The notice block after a power-on or bridge reset (R154). -/
def NoticeBlock.afterReset : NoticeBlock :=
  { milestones := [], queue := [], mask := 0x3F#6, gap := 20, lost := false }

/-- The management target after a reset of this kind (R172). -/
def Target.afterReset (kind : ResetKind) : Target :=
  { current := .none, waiting := [], staged := .empty, committed := .empty, policy := .default
    lastError := .none, lastReset := kind }

/-- The channel port after a power-on or bridge reset (R61). -/
def Channel.afterReset (up : Bool) (linkFrames : List Frame) : Channel :=
  { responses := [], tx := .idle, lastNotice := .none, linkFrames, up }

/-- The engine after a power-on or bridge reset (R97). -/
def Engine.afterReset : Engine :=
  { ctxs := Vector.replicate 8 (.blank 0), waitList := [], sticky := .none, owed := .none, late := [] }

/-- The bridge right after a power-on reset with no drive linked and the upstream link up (R15, R38, R61, R74, R97,
R120, R133, R142, R154, R172). The link states are a DESIGN CHOICE: see notes/assumptions/1.md. -/
def State.reset : State :=
  { now := 0, channel := .afterReset true [], table := [], slt := { locks := [], held := [] }
    engine := .afterReset, ports := Vector.replicate 10 (.afterReset false 0), job := .afterReset
    pacing := .afterReset, lost := { entries := [], reservations := 0 }, notices := .afterReset
    target := .afterReset .power, pending := [] }

end Sys2Proof.Machine
end

