-- ==== Sys2Proof/Machine/Work.lean ====
section
/-! DEFINITION. The internal effects one command can bring: what stands on the agenda of a step. -/
namespace Sys2Proof.Machine

/-- The outcome of a drive operation as its originator receives it (R22): with MISSING for an operation that the port
did not carry to its end (R18, R24, R29, R30). -/
inductive Outcome where
  | good (data : List Sector)
  | unreadable (data : List Sector) (masks : List Byte)
  | fault
  | missing
deriving DecidableEq, Repr

/-- One internal effect. The rule cited gives what it does; `handle` (Machine/Cascade.lean) says so. -/
inductive Work where
  /-- A routing decision for the entry with this tag, with a context offered to it or not (R46, R56, R80). -/
  | route (tag : Nat) (offered : Bool)
  /-- The context that owes its lock request makes it (R63). -/
  | askLock
  /-- The same at the end of a command, where the schedule does not put it off once more (R63). -/
  | lockDue
  /-- A request whose context found its stripe locked joins the held queue (R64 step 2). -/
  | rejoin (tag : Nat)
  /-- A context is told that its lock is granted (R66, R82). -/
  | startReading (c : CtxId)
  /-- Every port of a context's mask is final (R86). -/
  | lanesFinal (c : CtxId)
  /-- A context in WRITING or MARKING offers its spare operation (R87, R88, R89). -/
  | offerSpare (c : CtxId)
  /-- A SWEEP context goes FREE at its end (R90 step 4). -/
  | sweepFree (c : CtxId) (serial : Nat)
  /-- An outcome is delivered to the operation's originator (R22 step 4). -/
  | deliver (p : PortId) (op : DriveOp) (out : Outcome)
  /-- The issue rule and the deferred admission after an entry left a list (R22 step 5). -/
  | afterDeparture (p : PortId)
  /-- A port's error count is raised and its threshold checked (R25, R26). -/
  | countError (p : PortId)
  /-- The rebuild sequencer is told of a port failure (R32 step 4). -/
  | sequencerFailure (p : PortId)
  /-- The entries of a list leave one after another (R29 step 2). -/
  | emptyList (p : PortId)
  /-- The waiting entries of a list leave one after another (R30). -/
  | emptyWaiting (p : PortId)
  /-- The deferred operations leave one after another (R29 step 3, R30). -/
  | emptyDeferred (p : PortId)
  /-- The arbiter offers contexts to the wait list (R80). -/
  | arbiter
  /-- The launch conditions are examined (R105). -/
  | examine
  /-- The management target takes a command (R157). -/
  | take (tag : Nat) (record : List Byte)
  /-- A management command is answered (R157). -/
  | answer (tag : Nat) (r : Response)
  /-- The oldest waiting command becomes the command in progress (R156). -/
  | nextCommand
  /-- The settle timer expires (R36). -/
  | settleExpiry
  /-- What is due at the end of a step: see `settle` (Machine/Cascade.lean). -/
  | settle
deriving DecidableEq, Repr

end Sys2Proof.Machine
end

