-- ==== Sys2Proof/Machine/Ops.lean ====
section
/-! DEFINITION. The named operations over the state: access to ports, contexts and in-flight entries, what the blocks
derive from them, and the queues that leave through the transmitter. -/
namespace Sys2Proof.Machine

/-! ## Ports and contexts -/

/-- The ten ports, ascending. -/
def allPorts : List PortId := [0, 1, 2, 3, 4, 5, 6, 7, 8, 9]

/-- The eight contexts, ascending. -/
def allCtxs : List CtxId := [0, 1, 2, 3, 4, 5, 6, 7]

/-- Port p. -/
def State.port (s : State) (p : PortId) : Port := s.ports.get p

/-- The state with port p replaced. -/
def State.setPort (s : State) (p : PortId) (x : Port) : State := { s with ports := s.ports.set p x }

/-- Context c. -/
def State.ctx (s : State) (c : CtxId) : Context := s.engine.ctxs.get c

/-- The state with context c replaced. -/
def State.setCtx (s : State) (c : CtxId) (x : Context) : State :=
  { s with engine := { s.engine with ctxs := s.engine.ctxs.set c x } }

/-- The state with every port changed by the same function. -/
def State.mapPorts (s : State) (f : Port → Port) : State := { s with ports := s.ports.map f }

/-! ## The in-flight table -/

/-- The entry with this tag (R40: no two entries have the same tag). -/
def State.entry? (s : State) (tag : Nat) : Option InFlight := s.table.find? (fun e => e.tag == tag)

/-- The state with the entry of this tag changed. -/
def State.setEntry (s : State) (tag : Nat) (f : InFlight → InFlight) : State :=
  { s with table := s.table.map (fun e => if e.tag = tag then f e else e) }

/-- A request that stands in this state goes back to ROUTING (R41): it is in no port's list and has no context. -/
def InFlight.toRouting (from_ : ReqState) (e : InFlight) : InFlight :=
  if e.state = from_ then { e with state := .routing, forward := none, ctx := none } else e

/-- Whether an entry stands where an answer can reach it: in ROUTING or ISSUED (R41). -/
def InFlight.answerable (e : InFlight) : Bool := e.state == .routing || e.state == .issued

/-- Whether an entry is a member request that has still to be answered (R45). -/
def InFlight.openMember (e : InFlight) : Bool := e.op != .manage && e.state != .answered

/-- Whether the table holds no entry of a member request, answered ones apart (R45). -/
def State.drained (s : State) : Bool := !s.table.any (·.openMember)

/-! ## The committed map -/

/-- StripBlocks of the committed map. -/
def State.stripBlocks (s : State) : Nat := s.target.committed.stripBlocks

/-- StripeCount of the committed map, 0 with none (R164). -/
def State.stripeCount (s : State) : Nat := s.target.committed.stripeCount

/-- The committed width, 0 with no committed map; also StripeCost (R2). -/
def State.width (s : State) : Nat := s.target.committed.width

/-- The first block of stripe t (R10). -/
def State.firstBlock (s : State) (t : Nat) : Nat := t * s.stripBlocks

/-- The last block of stripe t (R10). -/
def State.lastBlock (s : State) (t : Nat) : Nat := t * s.stripBlocks + s.stripBlocks - 1

/-- The port whose role copy is MEMBER(m) (R7, R12). -/
def State.portOf (s : State) (m : Nat) : Option PortId :=
  allPorts.find? (fun p => (s.port p).role == .member m)

/-- The member index of a port, where it carries one. -/
def Port.memberIndex (x : Port) : Option Nat :=
  match x.role with
  | .member i => some i
  | _ => none

/-- The member index of a port whose health is FAILED. -/
def Port.failedMember (x : Port) : Option Nat := if x.health = .failed then x.memberIndex else none

/-- The failed members (R12), in port order. -/
def State.failedMembers (s : State) : List Nat := allPorts.filterMap (fun p => (s.port p).failedMember)

/-- The ports of every member other than those named, ascending (R49, R107). -/
def State.memberPortsExcept (s : State) (out : List Nat) : List PortId :=
  allPorts.filter (fun p => match (s.port p).memberIndex with
    | some i => !out.contains i
    | none => false)

/-! ## The job and the array state -/

/-- The bound states of the job (section 1.8, R99). -/
def JobState.bound : JobState → Bool
  | .active | .stopping | .stopped | .paused | .halted => true
  | .idle | .armed | .done => false

/-- The job states in which the ahead set may grow (R93) and a second fault can come (R115). -/
def JobState.sweepable : JobState → Bool
  | .active | .stopping | .stopped | .paused => true
  | .idle | .armed | .halted | .done => false

/-- The array states (R13). -/
inductive ArrayState where
  | optimal | degraded | rebuilding | fractured | broken
deriving DecidableEq, Repr

/-- The array state (R13), derived whenever it is asked for (R14). -/
def State.arrayState (s : State) : ArrayState :=
  match s.failedMembers with
  | [] => .optimal
  | [m] =>
    if s.job.state.bound then (if s.job.target = some m then .rebuilding else .broken) else .degraded
  | [m, k] =>
    if s.job.state.bound ∧ (s.job.target = some m ∨ s.job.target = some k) then .fractured else .broken
  | _ => .broken

/-- Whether the sweep window holds a DONE entry for stripe t (R48). -/
def Job.doneInWindow (j : Job) (t : Nat) : Bool := j.window.any (fun e => e.stripe == t && e.done)

/-- Whether stripe t is spare-current (R48). -/
def State.spareCurrent (s : State) (t : Nat) : Bool :=
  s.job.state.bound && (decide (t < s.job.w) || s.job.doneInWindow t || s.job.ahead.contains t)

/-! ## The context pool -/

/-- SWEEP contexts in use (R77). -/
def State.sweepInUse (s : State) : Nat :=
  allCtxs.countP (fun c => (s.ctx c).state != .free && (s.ctx c).kind == .sweep)

/-- DEGRADED and FILL contexts in use (R77). -/
def State.foregroundInUse (s : State) : Nat :=
  allCtxs.countP (fun c => (s.ctx c).state != .free && (s.ctx c).kind != .sweep)

/-- The lowest-numbered FREE context (R77). -/
def State.lowestFree (s : State) : Option CtxId := allCtxs.find? (fun c => (s.ctx c).state == .free)

/-- The context available to foreground, lowest-numbered (R77). -/
def State.foregroundCtx (s : State) : Option CtxId :=
  if s.foregroundInUse < Config.foregroundBound then s.lowestFree else none

/-- The context available to the sweep, lowest-numbered (R77). -/
def State.sweepCtx (s : State) : Option CtxId :=
  if s.engine.waitList = [] ∨ Config.foregroundBound ≤ s.foregroundInUse then s.lowestFree else none

/-! ## Locks -/

/-- Whether a lock entry's block range overlaps the blocks from first to last (R62). -/
def Lock.overlaps (l : Lock) (first last : Nat) : Bool := decide (l.first ≤ last) && decide (first ≤ l.last)

/-- Whether stripe t is locked (R62). -/
def State.locked (s : State) (t : Nat) : Bool :=
  s.slt.locks.any (·.overlaps (s.firstBlock t) (s.lastBlock t))

/-- The lock entry a request at stripe t names: of those that overlap it, the one whose owning context has the lowest
number (R68). -/
def State.blockingLock (s : State) (t : Nat) : Option CtxId :=
  allCtxs.find? (fun c => s.slt.locks.any (fun l => l.ctx == c && l.overlaps (s.firstBlock t) (s.lastBlock t)))

/-! ## The transmitter and the queues that feed it -/

/-- Whether the gap has elapsed (R59, R153): NoticeGap is in milliseconds, the clock in microseconds. -/
def State.gapElapsed (s : State) : Bool :=
  match s.channel.lastNotice with
  | none => true
  | some t => decide (t + s.notices.gap * 1000 ≤ s.now)

/-- The transmitter's choice (R59), made when it is free and the link is up (R60). -/
def State.transmit (s : State) : State :=
  if s.channel.tx = .idle ∧ s.channel.up then
    if s.channel.responses ≠ [] then { s with channel := { s.channel with tx := .response } }
    else match s.notices.queue with
      | [] => s
      | n :: rest =>
        if s.gapElapsed then
          { s with channel := { s.channel with tx := .notice n }, notices := { s.notices with queue := rest } }
        else s
  else s

/-- The responses of the refusal list, counted (R42). -/
def Channel.refusals (ch : Channel) : Nat :=
  ch.responses.countP (fun r => match r with
    | .refusal _ _ => true
    | .entry _ => false)

/-- A response joins the response queue (R58), and the transmitter chooses again (R59). -/
def State.queueResponse (s : State) (r : QueuedResponse) : State :=
  { s with channel := { s.channel with responses := s.channel.responses ++ [r] } }.transmit

/-- An entry in ROUTING or ISSUED goes ANSWERED with its response, which joins the response queue (R41, R58). -/
def State.answer (s : State) (tag : Nat) (r : Response) : State :=
  if (s.entry? tag).any (·.answerable) then
    (s.setEntry tag (fun e =>
      { e with state := .answered, forward := none, ctx := none, data := [], response := some r })).queueResponse
        (.entry tag)
  else s

/-- A response that carries a status alone (R58). -/
def Response.plain (status : Status) : Response := { status }

/-- Refuse a frame before it takes an entry (R42, R43). -/
def State.refuseFrame (s : State) (tag : Byte) (status : Status) : State := s.queueResponse (.refusal tag status)

/-! ## Notices -/

/-- The bit of the notice mask that enables a notice's kind: kind code c by bit c − 1 (R176). -/
def Notice.maskBit : Notice → Nat
  | .memberFailed _ _ _ => 0
  | .jobState _ _ _ => 1
  | .milestone _ _ => 2
  | .lostAdded _ _ => 3
  | .lostFull => 4
  | .complete _ _ => 5

/-- The two progress kinds, MILESTONE and LOST_ADDED (R151). -/
def Notice.progress : Notice → Bool
  | .milestone _ _ | .lostAdded _ _ => true
  | .memberFailed _ _ _ | .jobState _ _ _ | .lostFull | .complete _ _ => false

/-- The queue after an enabled notice is offered to it, and whether a notice was lost (R150, R151). -/
def offerNotice (queue : List Notice) (n : Notice) : List Notice × Bool :=
  if queue.length < Config.noticeBound then (queue ++ [n], false)
  else if n.progress then (queue, true)
  else if queue.any Notice.progress then (queue.eraseP Notice.progress ++ [n], true)
  else (queue, true)

/-- A notice is formed (R148): checked against the mask (R149), offered to the queue (R150, R151), and the transmitter
chooses again (R59). -/
def State.notify (s : State) (n : Notice) : State :=
  if s.notices.mask.getLsbD n.maskBit then
    let r := offerNotice s.notices.queue n
    { s with notices := { s.notices with queue := r.1, lost := s.notices.lost || r.2 } }.transmit
  else s

/-! ## Job state changes and the awaiting STOP -/

/-- The job goes to a state, with its JOB_STATE notice where the state changes (R100). -/
def State.jobTo (s : State) (st : JobState) (cause : JobCause) : State :=
  let s' := { s with job := { s.job with state := st, cause } }
  if s.job.state = st then s' else s'.notify (.jobState st cause s.job.w)

/-- The job goes IDLE: no target, no spare, no armed member, the settle timer stopped (R99). -/
def State.jobIdle (s : State) (cause : JobCause) : State :=
  { s with job := { s.job with target := none, spare := none, armed := none, settle := none } }.jobTo .idle cause

/-- A management refusal latches its status as the last management error (R159). -/
def State.latch (s : State) (status : Status) : State :=
  { s with target := { s.target with lastError := some status } }

/-- The awaiting STOP is answered, where there is one (R103); an answer of STATE is latched (R159). -/
def State.answerStop (s : State) (status : Status) : State :=
  match s.job.awaiting with
  | none => s
  | some tag =>
    let s' := { s with job := { s.job with awaiting := none } }
    (if status = .good then s' else s'.latch status).answer tag (.plain status)

end Sys2Proof.Machine
end

