-- ==== Sys2Proof/Machine/Operands.lean ====
section
/-! DEFINITION. The bytes of records and frames (chapter 11): parameters of the management commands, their result
records, and the frames the transmitter sends. -/
namespace Sys2Proof.Machine

/-! ## Bytes (R173: least significant byte first) -/

/-- The byte of a number below 256. -/
def byteOf (n : Nat) : Byte := BitVec.ofNat 8 n

/-- Two bytes. -/
def le2 (n : Nat) : List Byte := [byteOf n, byteOf (n / 256)]

/-- Four bytes. -/
def le4 (n : Nat) : List Byte := [byteOf n, byteOf (n / 256), byteOf (n / 65536), byteOf (n / 16777216)]

/-- The number in two bytes. -/
def num2 (a b : Byte) : Nat := a.toNat + 256 * b.toNat

/-- The number in four bytes. -/
def num4 (a b c d : Byte) : Nat := a.toNat + 256 * b.toNat + 65536 * c.toNat + 16777216 * d.toNat

/-- A flag byte: 00h or 01h. -/
def flagByte (b : Bool) : Byte := if b then 1 else 0

/-- A byte for an optional number: FFh is none (R173). -/
def optByte : Option Nat → Byte
  | some n => byteOf n
  | none => 0xFF

/-! ## Codes -/

/-- Status codes (R175). -/
def Status.code : Status → Byte
  | .good => 0x00 | .media => 0x01 | .timeout => 0x02 | .dataLost => 0x03 | .range => 0x04 | .span => 0x05
  | .noMember => 0x06 | .busy => 0x07 | .tagInUse => 0x08 | .state => 0x09 | .mapInvalid => 0x0A
  | .spareUnfit => 0x0B | .jobBound => 0x0C | .format => 0x0D | .unknown => 0x0E

/-- Array state codes (R180). -/
def ArrayState.code : ArrayState → Byte
  | .optimal => 0 | .degraded => 1 | .rebuilding => 2 | .fractured => 3 | .broken => 4

/-- Job state codes (R180). -/
def JobState.code : JobState → Byte
  | .idle => 0 | .armed => 1 | .active => 2 | .stopping => 3 | .stopped => 4 | .paused => 5 | .halted => 6 | .done => 7

/-- Job cause codes (R180). -/
def JobCause.code : JobCause → Byte
  | .command => 1 | .auto => 2 | .lostFull => 3 | .secondFault => 4 | .spareLost => 5 | .complete => 6 | .reset => 7

/-- Role codes (R178). -/
def Role.code : Role → Byte
  | .unused => 0x00 | .spare => 0x01 | .member i => byteOf (0x10 + i)

/-- Health codes (R180). -/
def Health.code : Health → Byte
  | .absent => 0 | .online => 1 | .failed => 2

/-- Mode codes (R178). -/
def Mode.code : Mode → Byte
  | .fixed => 1 | .yield => 2 | .burst => 3

/-- Reset kind codes (R180). -/
def ResetKind.code : ResetKind → Byte
  | .power => 1 | .bridge => 2 | .channel => 3

/-- Failure reason codes (R176). -/
def FailReason.code : FailReason → Byte
  | .link => 1 | .errors => 2 | .command => 3

/-- Lost entry cause codes (R179). -/
def LostCause.code : LostCause → Byte
  | .unreadable => 1 | .missing => 2 | .both => 3

/-! ## The member map record (R178) -/

/-- A role byte that is a code of kind: UNUSED, SPARE, or MEMBER with an index of 0 to 15 (R178). -/
def roleByteKnown (b : Byte) : Bool := b.toNat ≤ 1 || (0x10 ≤ b.toNat && b.toNat ≤ 0x1F)

/-- A role byte that names a member index above 8 (R178). -/
def roleByteHigh (b : Byte) : Bool := 0x19 ≤ b.toNat && b.toNat ≤ 0x1F

/-- The role of a byte (R178). -/
def roleOfByte (b : Byte) : Role :=
  if b.toNat = 0 then .unused else if b.toNat = 1 then .spare else .member (b.toNat - 0x10)

/-- The values StripBlocks may take in the committed map (R2). -/
def stripBlocksValid (n : Nat) : Bool := n == 8 || n == 16 || n == 32 || n == 64

/-- A member map record: FORMAT before RANGE (R3, R178). -/
def parseMap (ps : List Byte) : Except Status MemberMap :=
  match ps with
  | sb :: c0 :: c1 :: c2 :: c3 :: width :: r0 :: r1 :: r2 :: r3 :: r4 :: r5 :: r6 :: r7 :: r8 :: r9 :: [] =>
    let roles := [r0, r1, r2, r3, r4, r5, r6, r7, r8, r9]
    if !roles.all roleByteKnown then .error .format
    else if !(sb.toNat == 0 || stripBlocksValid sb.toNat) || Config.stripeCountBound < num4 c0 c1 c2 c3
        || 9 < width.toNat || roles.any roleByteHigh then .error .range
    else .ok {
      stripBlocks := sb.toNat, stripeCount := num4 c0 c1 c2 c3, width := width.toNat
      roles := #v[roleOfByte r0, roleOfByte r1, roleOfByte r2, roleOfByte r3, roleOfByte r4, roleOfByte r5,
        roleOfByte r6, roleOfByte r7, roleOfByte r8, roleOfByte r9] }
  | _ => .error .format

/-- The bytes of a member map record (R178). -/
def MemberMap.bytes (m : MemberMap) : List Byte :=
  [byteOf m.stripBlocks] ++ le4 m.stripeCount ++ [byteOf m.width] ++ m.roles.toList.map Role.code

/-- The indices held by the MEMBER ports of a map, in port order. -/
def MemberMap.indices (m : MemberMap) : List Nat :=
  m.roles.toList.filterMap (fun r => match r with
    | .member i => some i
    | .spare | .unused => none)

/-- Whether a map may be committed (R4). -/
def MemberMap.valid (m : MemberMap) : Bool :=
  decide (3 ≤ m.width) && decide (m.width ≤ 9) && m.indices.length == m.width
    && (List.range m.width).all (fun i => m.indices.contains i)
    && decide (1 ≤ m.stripeCount) && stripBlocksValid m.stripBlocks

/-! ## The pacing record (R178) -/

/-- The mode of a code; any other gives RANGE (R178). -/
def modeOfByte (b : Byte) : Option Mode :=
  if b.toNat = 1 then some .fixed else if b.toNat = 2 then some .yield else if b.toNat = 3 then some .burst else none

/-- SET_PACING's parameters: the pacing record and apply-now (R129, R177, R178). -/
def parsePacing (ps : List Byte) : Except Status (PacingRecord × Bool) :=
  match ps with
  | [m, t, p0, p1, s0, s1, f0, f1, w0, w1, now] =>
    match modeOfByte m with
    | none => .error .range
    | some mode =>
      let r : PacingRecord :=
        { mode, tickSelect := t.toNat, periodTicks := num2 p0 p1, share := num2 s0 s1, floor := num2 f0 f1
          weight := num2 w0 w1 }
      if 7 < r.tickSelect ∨ r.periodTicks = 0 ∨ 255 < r.periodTicks ∨ 1023 < r.share ∨ 1023 < r.floor
          ∨ 255 < r.weight then .error .range
      else .ok (r, now != 0)
  | _ => .error .format

/-- The bytes of a pacing record (R178). -/
def PacingRecord.bytes (r : PacingRecord) : List Byte :=
  [r.mode.code, byteOf r.tickSelect] ++ le2 r.periodTicks ++ le2 r.share ++ le2 r.floor ++ le2 r.weight

/-! ## The policy record (R178) -/

/-- SET_POLICY's parameters: FORMAT of the on/off bytes before RANGE of the numbers (R162, R178). -/
def parsePolicy (ps : List Byte) : Except Status Policy :=
  match ps with
  | [af, ft, d0, d1, rl, as, t0, t1, fill, depth] =>
    if 1 < af.toNat ∨ 1 < as.toNat ∨ 1 < fill.toNat then .error .format
    else if ft.toNat = 0 ∨ 15 < ft.toNat ∨ num2 d0 d1 = 0 ∨ 255 < num2 d0 d1 ∨ 3 < rl.toNat ∨ 255 < num2 t0 t1
        ∨ depth.toNat = 0 ∨ 8 < depth.toNat then .error .range
    else .ok {
      autoFail := af == 1, failThreshold := ft.toNat, driveTimeout := num2 d0 d1, retryLimit := rl.toNat
      autoStart := as == 1, settleTime := num2 t0 t1, aheadFill := fill == 1, sweepDepth := depth.toNat }
  | _ => .error .format

/-! ## The other parameters (R177) -/

/-- A port byte: above 9 gives RANGE (R177). -/
def portOfByte (b : Byte) : Option PortId := if h : b.toNat < 10 then some ⟨b.toNat, h⟩ else none

/-- START_REBUILD's member byte, port byte and resume stripe (R177). -/
def parseStart (ps : List Byte) : Option (Byte × Byte × Option Nat) :=
  match ps with
  | [m, p] => some (m, p, none)
  | [m, p, a, b, c, d] => some (m, p, some (num4 a b c d))
  | _ => none

/-- Milestone entries of 5 bytes each (R177). -/
def milestonesOf : List Byte → List Milestone
  | a :: b :: c :: d :: t :: rest => { target := num4 a b c d, tag := t } :: milestonesOf rest
  | _ => []

/-- Whether targets are strictly ascending (R145). -/
def ascending : List Milestone → Bool
  | a :: b :: rest => decide (a.target < b.target) && ascending (b :: rest)
  | [_] | [] => true

/-- LOAD_MILESTONES' entries, checked against a StripeCount (R145, R177). -/
def parseMilestones (ps : List Byte) (stripeCount : Nat) : Except Status (List Milestone) :=
  match ps with
  | [] => .error .format
  | n :: rest =>
    if Config.milestoneBound < n.toNat ∨ rest.length ≠ 5 * n.toNat ∨ !ascending (milestonesOf rest) then .error .format
    else if (milestonesOf rest).any (fun m => m.target == 0 || decide (stripeCount < m.target)) then .error .range
    else .ok (milestonesOf rest)

/-- The bytes of a milestone (R177). -/
def Milestone.bytes (m : Milestone) : List Byte := le4 m.target ++ [m.tag]

/-- SET_NOTICES' mask and gap (R169, R177). -/
def parseNotices (ps : List Byte) : Except Status (BitVec 6 × Nat) :=
  match ps with
  | [m, g0, g1] =>
    if 63 < m.toNat ∨ 255 < num2 g0 g1 then .error .range else .ok (BitVec.ofNat 6 m.toNat, num2 g0 g1)
  | _ => .error .format

/-! ## Result records (R179) -/

/-- A lost entry record (R179). -/
def LostEntry.bytes (e : LostEntry) : List Byte :=
  le4 e.stripe ++ [byteOf e.target, e.cause.code] ++ le2 ((e.sources.map (2 ^ ·)).sum)
    ++ [byteOf e.items.length] ++ e.items.flatMap (fun i => [byteOf i.1, i.2])

/-- A per-port entry of the status record (R180). -/
def Port.statusBytes (x : Port) : List Byte :=
  [x.role.code, flagByte x.bound, x.health.code, byteOf x.errors,
    byteOf (x.list.countP (fun e => e.issue.isSome)), byteOf x.list.length]

/-- The sticky causes byte (R180). -/
def Causes.byte (c : Causes) : Byte :=
  byteOf (c.unreadableSeen.toNat + 2 * c.missingSeen.toNat + 4 * c.retried.toNat + 8 * c.poisonWritten.toNat)

/-- The target the status record reports (R99). -/
def Job.reportedTarget (j : Job) : Option Nat :=
  match j.state with
  | .idle => none
  | .armed => j.armed
  | .active | .stopping | .stopped | .paused | .halted | .done => j.target

/-- The spare the status record reports (R99). -/
def Job.reportedSpare (j : Job) : Option Nat :=
  match j.state with
  | .idle | .armed => none
  | .active | .stopping | .stopped | .paused | .halted | .done => j.spare.map (·.val)

/-- The status record, 97 bytes (R164, R180). -/
def State.statusBytes (s : State) : List Byte :=
  [s.arrayState.code, s.job.state.code, s.job.cause.code, optByte s.job.reportedTarget, optByte s.job.reportedSpare]
    ++ le4 s.job.w ++ le4 s.job.n ++ le4 s.stripeCount
    ++ [byteOf s.job.window.length, byteOf s.sweepInUse, byteOf s.foregroundInUse, byteOf s.job.ahead.length,
      byteOf s.lost.entries.length, byteOf s.lost.reservations,
      byteOf (s.table.countP (fun e => e.state == .held)), byteOf s.table.length, s.pacing.inForce.mode.code]
    ++ le2 s.pacing.budget ++ le2 s.pacing.credit ++ le2 s.pacing.fg
    ++ [flagByte s.pacing.stagedPending, s.engine.sticky.byte, flagByte s.notices.lost,
      (match s.target.lastError with
        | some e => e.code
        | none => 0), s.target.lastReset.code]
    ++ allPorts.flatMap (fun p => (s.port p).statusBytes)

/-! ## Frames the transmitter sends -/

/-- The payload of a response (R175). -/
def Payload.bytes : Payload → List Byte
  | .none => []
  | .sectors d => d.flatMap bytesOfSector
  | .record b => b

/-- A response frame (R175). -/
def responseFrame (tag : Byte) (r : Response) : List Byte :=
  [0x01, tag, r.status.code, byteOf r.badOffset, r.mask] ++ r.payload.bytes

/-- A notice frame (R176). -/
def Notice.frame : Notice → List Byte
  | .memberFailed p m r => [0x02, 1, byteOf p.val, byteOf m, r.code]
  | .jobState st c w => [0x02, 2, st.code, c.code] ++ le4 w
  | .milestone t w => [0x02, 3, t] ++ le4 w
  | .lostAdded t n => [0x02, 4] ++ le4 t ++ [byteOf n]
  | .lostFull => [0x02, 5]
  | .complete t p => [0x02, 6, byteOf t, byteOf p.val]

/-- The frame the transmitter is sending, where it sends one (R58, R59, R175, R176). -/
def State.frameBeingSent (s : State) : Option (List Byte) :=
  match s.channel.tx with
  | .idle => none
  | .notice n => some n.frame
  | .response =>
    match s.channel.responses with
    | [] => none
    | .refusal tag st :: _ => some (responseFrame tag (.plain st))
    | .entry tag :: _ => (s.entry? tag).bind (fun e => e.response.map (responseFrame (byteOf tag)))

end Sys2Proof.Machine
end

