-- ==== Sys2Proof/Machine/Flags.lean ====
section
/-! DEFINITION. Cause flags and the lane algebra of the reconstruction engine (R83, R86, R94), and the sector masks
and items that come of it. -/
namespace Sys2Proof.Machine

/-- One set of cause flags ORed into another (R94). -/
def Causes.or (a b : Causes) : Causes :=
  { unreadableSeen := a.unreadableSeen || b.unreadableSeen
    missingSeen := a.missingSeen || b.missingSeen
    retried := a.retried || b.retried
    poisonWritten := a.poisonWritten || b.poisonWritten }

/-- A lane that has received nothing. -/
def Lane.empty : Lane := { acc := 0, good := false, unreadable := false, missing := false }

/-- A GOOD input: the sector is XORed in (R83). -/
def Lane.addGood (l : Lane) (x : Sector) : Lane := { l with acc := l.acc ^^^ x, good := true }

/-- An UNREADABLE input: nothing is XORed (R83). -/
def Lane.addUnreadable (l : Lane) : Lane := { l with unreadable := true }

/-- A MISSING input (R84, R85). -/
def Lane.addMissing (l : Lane) : Lane := { l with missing := true }

/-- A lane's result class (R86). -/
def Lane.class (l : Lane) : LaneClass :=
  if l.missing then .lostMissing else if l.unreadable then .lostUnreadable else .good

/-- Whether a class is lost (R86). -/
def LaneClass.lost : LaneClass → Bool
  | .good => false
  | .lostUnreadable | .lostMissing => true

/-- The output data of a lane: the accumulator of a GOOD lane, zeros of a lost one (R86). -/
def Lane.output (l : Lane) : Sector := if l.class.lost then 0 else l.acc

/-- The lanes after one port's GOOD outcome (R83). -/
def lanesGood (lanes : List Lane) (data : List Sector) : List Lane := List.zipWith Lane.addGood lanes data

/-- The bits of a sector mask, sector 0 first (R175: sector k by 2^k). -/
def maskBits (m : Byte) : List Bool := (List.range 8).map (fun k => m.getLsbD k)

/-- The sector mask of eight lanes. -/
def maskOf (bits : List Bool) : Byte := BitVec.ofNat 8 (bits.foldr (fun b n => b.toNat + 2 * n) 0)

/-- The lanes after one port's UNREADABLE outcome: a sector its block's mask names gives an UNREADABLE input, every
other a GOOD one (R83). -/
def lanesUnreadable (lanes : List Lane) (data : List Sector) (masks : List Byte) : List Lane :=
  List.zipWith (fun l (x : Sector × Bool) => if x.2 then l.addUnreadable else l.addGood x.1) lanes
    (data.zip (masks.flatMap maskBits))

/-- The lanes of one block, `b` blocks from the first. -/
def blockOf {α : Type} (lanes : List α) (b : Nat) : List α := (lanes.drop (8 * b)).take 8

/-- The lost-lane mask of one block. -/
def lostMask (classes : List LaneClass) (b : Nat) : Byte := maskOf ((blockOf classes b).map LaneClass.lost)

/-- The (block offset, mask) pairs of the blocks that hold a lost lane, ascending (R88, R136). -/
def lostItems (classes : List LaneClass) (count : Nat) : List (Nat × Byte) :=
  (List.range count).filterMap (fun b => if lostMask classes b = 0 then none else some (b, lostMask classes b))

/-- The cause of a lost entry, from the classes of the lost lanes (R136). -/
def lostCause (classes : List LaneClass) : LostCause :=
  if classes.all (· != .lostMissing) then .unreadable
  else if classes.all (· != .lostUnreadable) then .missing
  else .both

/-- The cause flags a context gains when its lane classes are formed (R86). -/
def laneCauses (lanes : List Lane) : Causes :=
  { Causes.none with unreadableSeen := lanes.any (·.unreadable), missingSeen := lanes.any (·.missing) }

/-- The data of a READ completion as the bridge takes it: 8 × count sectors. Where the report carries another number,
a missing sector is the free value `Config.freeSector` (notes/assumptions/19.md). -/
def fitData (p : PortId) (id count : Nat) (data : List Sector) : List Sector :=
  if data.length = 8 * count then data
  else (List.range (8 * count)).map (fun i => data.getD i (Config.freeSector p id i))

/-- The masks of an UNREADABLE completion, one a block; a mask that is not there names no sector. -/
def fitMasks (count : Nat) (masks : List Byte) : List Byte := (List.range count).map (fun b => masks.getD b 0)

/-- The outcome of a completion as it is delivered (R22): an UNREADABLE of an operation other than a READ is FAULT, and
one whose masks name no sector is GOOD. An UNREADABLE that meets both is FAULT, and counts as one: the model's choice
(notes/assumptions/39.md). -/
def normalise (p : PortId) (id : Nat) (op : DriveOp) : Report → Outcome
  | .fault => .fault
  | .good data => .good (if op.kind = .read then fitData p id op.count data else [])
  | .unreadable data masks =>
    if op.kind = .read then
      if (fitMasks op.count masks).all (· == 0) then .good (fitData p id op.count data)
      else .unreadable (fitData p id op.count data) (fitMasks op.count masks)
    else .fault

/-- The first block a list of masks names, with its mask (R54). -/
def firstBad (masks : List Byte) : Nat × Byte :=
  match (List.range masks.length).find? (fun b => masks.getD b 0 != 0) with
  | some b => (b, masks.getD b 0)
  | none => (0, 0)

end Sys2Proof.Machine
end

