-- ==== Sys2Proof/Machine/Pacing.lean ====
section
/-! DEFINITION. The pacing timer (chapter 7): the foreground count, ticks, budgets and period ends. -/
namespace Sys2Proof.Machine

/-- An admission on behalf of the foreground: fg rises by 1 and saturates (R57, R128). -/
def State.countForeground (s : State) : State :=
  { s with pacing := { s.pacing with fg := min (s.pacing.fg + 1) Config.fgBound } }

/-- The tick length of a record in µs: 16 × 2^TickSelect (R123). -/
def PacingRecord.tickLength (r : PacingRecord) : Nat := 16 * 2 ^ r.tickSelect

/-- The budget B of a record for a foreground count (R125). -/
def PacingRecord.budget (r : PacingRecord) (fg : Nat) : Nat :=
  match r.mode with
  | .fixed => r.share
  | .burst => 1023
  | .yield =>
    let d := fg * r.weight / 16
    let f := min r.floor r.share
    if f + d ≤ r.share then r.share - d else f

/-- The carry C (R126): with no committed map StripeCost is 0 and C is 0. -/
def carry (credit cost : Nat) : Nat := min credit (cost - 1)

/-- A period end at the moment `t`, steps 1 to 4 (R124). Step 5, the launch examination, is work of the step. -/
def State.periodEnd (s : State) (t : Nat) : State :=
  let r := if s.pacing.stagedPending then s.pacing.staged else s.pacing.inForce
  let b := r.budget s.pacing.fg
  { s with pacing :=
      { s.pacing with
        inForce := r, stagedPending := false, budget := b, credit := b + carry s.pacing.credit s.width
        fg := 0, ticks := 0, tickDue := t + r.tickLength } }

/-- The clock moves on to a moment, where it has not passed it yet (notes/assumptions/2.md). -/
def State.advanceTo (s : State) (t : Nat) : State := { s with now := max s.now t }

/-- The expiry of one tick (R123): the count rises by 1, or the period ends. -/
def State.tickExpiry (s : State) : List Work × State :=
  let s' := s.advanceTo s.pacing.tickDue
  if s.pacing.ticks + 1 < s.pacing.inForce.periodTicks then
    ([], { s' with pacing :=
            { s.pacing with ticks := s.pacing.ticks + 1
                            tickDue := s.pacing.tickDue + s.pacing.inForce.tickLength } })
  else ([.examine], s'.periodEnd s.pacing.tickDue)

/-- The moment the current period ends: when the last of its remaining ticks expires (R123). -/
def Pacing.periodDue (x : Pacing) : Nat :=
  x.tickDue + (x.inForce.periodTicks - x.ticks - 1) * x.inForce.tickLength

end Sys2Proof.Machine
end

