-- ==== Sys2Proof/Machine/Ports.lean ====
section
/-! DEFINITION. The drive port units (chapter 2): admission, issue, departures, error counts and failures. -/
namespace Sys2Proof.Machine

/-! ## Admission and issue -/

/-- Entries outstanding at the drive (R17). -/
def Port.outstanding (x : Port) : Nat := x.list.countP (fun e => e.issue.isSome)

/-- The list after the oldest waiting entries have taken the free places at the drive, in list order (R20), and the next
identity. -/
def issueEntries (deadline : Nat) : Nat → Nat → List ListEntry → List ListEntry × Nat
  | _, id, [] => ([], id)
  | slots, id, e :: es =>
    match e.issue, slots with
    | some _, _ =>
      let r := issueEntries deadline slots id es
      (e :: r.1, r.2)
    | none, 0 => (e :: es, id)
    | none, k + 1 =>
      let r := issueEntries deadline k (id + 1) es
      ({ e with issue := some { id, deadline } } :: r.1, r.2)

/-- DriveTimeout in µs (R20, R161). -/
def Policy.driveTimeoutMicros (x : Policy) : Nat := x.driveTimeout * 50000

/-- The issue rule on a port (R20). A port that is not ONLINE issues nothing new (R30). -/
def State.issue (s : State) (p : PortId) : State :=
  let x := s.port p
  if x.health = .online then
    let r := issueEntries (s.now + s.target.policy.driveTimeoutMicros)
      (Config.outstandingBound - x.outstanding) x.nextId x.list
    s.setPort p { x with list := r.1, nextId := r.2 }
  else s

/-- An operation is admitted: appended to the list as waiting, and the issue rule applied (R18). -/
def State.enlist (s : State) (p : PortId) (op : DriveOp) : State :=
  let x := s.port p
  (s.setPort p { x with list := x.list ++ [{ op, issue := none }] }).issue p

/-- What a port answers to an offer (R18). -/
inductive Admission where
  | admitted | busy | deferred | missing
deriving DecidableEq, Repr

/-- Whether the list has room and no context operation waits ahead (R18). -/
def Port.hasRoom (x : Port) : Bool := x.deferred.isEmpty && decide (x.list.length < Config.listBound)

/-- The router offers an operation (R18). The admission is counted (R57); a refusal leaves no trace. -/
def State.offerForeground (s : State) (p : PortId) (op : DriveOp) : Admission × State :=
  if (s.port p).health ≠ .online then (.missing, s)
  else if (s.port p).hasRoom then (.admitted, (s.enlist p op).countForeground)
  else (.busy, s)

/-- An admission of context c's operation is counted where the context is DEGRADED or FILL (R57, R82, R92). -/
def State.countContext (s : State) (c : CtxId) : State :=
  if (s.ctx c).kind = .sweep then s else s.countForeground

/-- Whether a context operation belongs to one of the contexts in `cs`. -/
def DriveOp.ofCtxs (cs : List CtxId) (op : DriveOp) : Bool :=
  match op.orig with
  | .ctx c _ => cs.contains c
  | .tag _ | .orphan => false

/-- A context offers an operation (R18, R19). The deferred queue holds one operation a context (R19): while one waits
there its context offers no other. -/
def State.offerContext (s : State) (c : CtxId) (p : PortId) (op : DriveOp) : Admission × State :=
  if (s.port p).health ≠ .online then (.missing, s)
  else if (s.port p).hasRoom then (.admitted, (s.enlist p op).countContext c)
  else
    let x := s.port p
    (.deferred, if x.deferred.any (·.ofCtxs [c]) then s else s.setPort p { x with deferred := x.deferred ++ [op] })

/-- After an entry left the list: the issue rule, then the admission of the oldest deferred operation (R19, R22 step 5). -/
def State.afterDeparture (s : State) (p : PortId) : State :=
  let s1 := s.issue p
  let x := s1.port p
  match x.deferred with
  | [] => s1
  | op :: rest =>
    if x.health = .online ∧ x.list.length < Config.listBound then
      let s2 := (s1.setPort p { x with deferred := rest }).enlist p op
      match op.orig with
      | .ctx c _ => s2.countContext c
      | .tag _ | .orphan => s2
    else s1

/-! ## Orphans -/

/-- An originator after the contexts in `cs` have gone (R27). -/
def Originator.orphanCtxs (cs : List CtxId) : Originator → Originator
  | .ctx c n => if cs.contains c then .orphan else .ctx c n
  | .tag t => .tag t
  | .orphan => .orphan

/-- A port after the contexts in `cs` have been abandoned or have ended early: their entries are orphans (R27), their
deferred operations removed (R19). -/
def Port.orphanCtxs (cs : List CtxId) (x : Port) : Port :=
  { x with
    list := x.list.map (fun e => { e with op := { e.op with orig := e.op.orig.orphanCtxs cs } })
    deferred := x.deferred.filter (fun op => !op.ofCtxs cs) }

/-- An originator after the in-flight table has been emptied (R27). -/
def Originator.orphanTag : Originator → Originator
  | .tag _ => .orphan
  | .ctx c n => .ctx c n
  | .orphan => .orphan

/-- A port after a channel reset (R39). -/
def Port.orphanTags (x : Port) : Port :=
  { x with list := x.list.map (fun e => { e with op := { e.op with orig := e.op.orig.orphanTag } }) }

/-! ## The drain of a lock -/

/-- A DRAINING entry whose block range contains this address. -/
def Lock.drains (l : Lock) (addr : Nat) : Bool :=
  !l.granted && decide (l.first ≤ addr) && decide (addr ≤ l.last)

/-- The lock entry of context c becomes GRANTED, and its context is told at once (R66). -/
def State.grant (s : State) (c : CtxId) : List Work × State :=
  ([.startReading c], { s with slt := { s.slt with
    locks := s.slt.locks.map (fun l => if l.ctx = c then { l with granted := true, drain := 0 } else l) } })

/-- The departure of a foreground write is reported to the lock table (R65). -/
def State.drainReport (s : State) (addr : Nat) : List Work × State :=
  match s.slt.locks.find? (·.drains addr) with
  | none => ([], s)
  | some l =>
    if l.drain ≤ 1 then s.grant l.ctx
    else ([], { s with slt := { s.slt with
      locks := s.slt.locks.map (fun k => if k.ctx = l.ctx then { k with drain := k.drain - 1 } else k) } })

/-! ## Departures -/

/-- An operation has left a list with an outcome: the report of a foreground write to the lock table (R23), then the raise
of the error count where one is due (R24, R25), then the delivery. -/
def State.departed (s : State) (p : PortId) (op : DriveOp) (out : Outcome) (raise : Bool) : List Work × State :=
  let r := if op.fgWrite then s.drainReport op.addr else ([], s)
  (r.1 ++ (if raise then [.countError p] else []) ++ [.deliver p op out], r.2)

/-- The outstanding entry with this identity (R22). -/
def Port.outstanding? (x : Port) (id : Nat) : Option ListEntry :=
  x.list.find? (fun e => match e.issue with
    | some i => i.id == id
    | none => false)

/-- The list without the outstanding entry of this identity. -/
def Port.without (x : Port) (id : Nat) : Port :=
  { x with list := x.list.eraseP (fun e => match e.issue with
      | some i => i.id == id
      | none => false) }

/-- A drive completion (R22, R25); one that matches no outstanding entry is discarded. -/
def State.driveCompletion (s : State) (p : PortId) (id : Nat) (r : Report) : List Work × State :=
  match (s.port p).outstanding? id with
  | none => ([], s)
  | some e =>
    let out := normalise p id e.op r
    let t := (s.setPort p ((s.port p).without id)).departed p e.op out (decide (out = .fault))
    (t.1 ++ [.afterDeparture p], t.2)

/-- The expiry of an outstanding entry's deadline (R24). The clock moves to the deadline. -/
def State.driveTimeout (s : State) (p : PortId) (id : Nat) : List Work × State :=
  match (s.port p).outstanding? id with
  | none => ([], s)
  | some e =>
    let due := match e.issue with
      | some i => i.deadline
      | none => s.now
    let t := ((s.setPort p ((s.port p).without id)).advanceTo due).departed p e.op .missing true
    (t.1 ++ [.afterDeparture p], t.2)

/-- The oldest entry leaves with MISSING, and the rest after it (R29 step 2). -/
def State.emptyList (s : State) (p : PortId) : List Work × State :=
  match (s.port p).list with
  | [] => ([], s)
  | e :: rest =>
    let t := (s.setPort p { s.port p with list := rest }).departed p e.op .missing false
    (t.1 ++ [.emptyList p], t.2)

/-- The oldest waiting entry leaves with MISSING, and the rest after it (R30). -/
def State.emptyWaiting (s : State) (p : PortId) : List Work × State :=
  match (s.port p).list.find? (fun e => e.issue.isNone) with
  | none => ([], s)
  | some e =>
    let t := (s.setPort p { s.port p with
      list := (s.port p).list.eraseP (fun e => e.issue.isNone) }).departed p e.op .missing false
    (t.1 ++ [.emptyWaiting p], t.2)

/-- The oldest deferred operation goes to its context with MISSING, and the rest after it (R29 step 3, R30). -/
def State.emptyDeferred (s : State) (p : PortId) : List Work × State :=
  match (s.port p).deferred with
  | [] => ([], s)
  | op :: rest =>
    ([.deliver p op .missing, .emptyDeferred p], s.setPort p { s.port p with deferred := rest })

/-! ## Failure -/

/-- The member index a MEMBER_FAILED notice of this port carries (R32 step 3): its own, or T for the bound spare. -/
def State.failingMember (s : State) (p : PortId) : Option Nat :=
  match (s.port p).role with
  | .member i => some i
  | .spare | .unused => if (s.port p).bound then s.job.target else none

/-- A port going to FAILED (R32): the health, the notice, then the sequencer and the treatment of the list, by link loss
(R29) or with the drive still linked (R30). -/
def State.failPort (s : State) (p : PortId) (reason : FailReason) : List Work × State :=
  let s1 := s.setPort p { s.port p with health := .failed }
  let list : List Work :=
    if reason = .link then [.emptyList p, .emptyDeferred p] else [.emptyWaiting p, .emptyDeferred p]
  match s.failingMember p with
  | none => (list, s1)
  | some m => (.sequencerFailure p :: list, s1.notify (.memberFailed p m reason))

/-- The error count is raised, and the threshold checked (R25, R26). -/
def State.countError (s : State) (p : PortId) : List Work × State :=
  let x := s.port p
  let n := min (x.errors + 1) Config.errorBound
  let s1 := s.setPort p { x with errors := n }
  if s.target.policy.autoFail ∧ x.health = .online ∧ s.target.policy.failThreshold ≤ n then s1.failPort p .errors
  else ([], s1)

/-- Whether losing its link fails a port: it is a MEMBER, or it carries the bound mark (R29). -/
def Port.needed (x : Port) : Bool := x.memberIndex.isSome || x.bound

/-- A link-down indication (R29). -/
def State.linkDown (s : State) (p : PortId) : List Work × State :=
  let s1 := s.setPort p { s.port p with link := false }
  if (s.port p).health = .online then
    if (s.port p).needed then s1.failPort p .link
    else ([.emptyList p, .emptyDeferred p], s1.setPort p { s1.port p with health := .absent })
  else ([.emptyList p, .emptyDeferred p], s1)

/-- A link-up indication (R28). -/
def State.linkUp (s : State) (p : PortId) : State :=
  let x := s.port p
  s.setPort p { x with link := true, health := if x.health = .absent then .online else x.health }

/-- What RESTORE_PORT makes of a port (R33). -/
def Port.restored (x : Port) : Port :=
  { x with
    errors := 0
    health := if x.health = .failed then
        (if x.link then .online else if x.memberIndex.isSome then .failed else .absent)
      else x.health }

end Sys2Proof.Machine
end

