-- ==== Sys2Proof/Machine/Contexts.lean ====
section
/-! DEFINITION. Taking and freeing contexts, their locks and the held queue (chapters 4 and 5). -/
namespace Sys2Proof.Machine

/-- A context as it is taken (R76): in LOCKING, no lane with an input, no retry made. -/
def Context.taken (serial : Nat) (kind : CtxKind) (stripe first count : Nat) (mask : List PortId)
    (target : Option PortId) (targetMember : Option Nat) (origin : CtxOrigin) : Context :=
  { Context.blank serial with
    state := .locking, kind, stripe, first, count, mask, target, targetMember, origin
    lanes := List.replicate (8 * count) Lane.empty }

/-- The serial number context c has when it is taken next. -/
def State.nextSerial (s : State) (c : CtxId) : Nat := (s.ctx c).serial + 1

/-! ## The held queue -/

/-- A request joins the held queue behind the lock entry that blocks it, or is answered BUSY when the queue is full
(R68). -/
def State.hold (s : State) (tag stripe : Nat) : State :=
  if s.slt.held.length < Config.heldBound then
    match s.blockingLock stripe with
    | some c =>
      ({ s with slt := { s.slt with held := s.slt.held ++ [({ tag, lock := c } : Held)] } }).setEntry tag
        (fun e => { e with state := .held, forward := none, ctx := none })
    | none => s.answer tag (.plain .busy)
  else s.answer tag (.plain .busy)

/-! ## Freeing contexts -/

/-- The tags of held requests that name a lock of the contexts in `cs`, in queue order (R69 step 2). -/
def State.heldBy (s : State) (cs : List CtxId) : List Nat :=
  (s.slt.held.filter (fun h => cs.contains h.lock)).map (·.tag)

/-- The contexts in `cs` go FREE: their lock entries are removed, a lock request that one of them owes is dropped, and the
held requests that name them are taken out and are ROUTING again (R69 steps 1 and 2). -/
def State.freeCtxs (s : State) (cs : List CtxId) : State :=
  let tags := s.heldBy cs
  let s1 := { s with
    slt := { locks := s.slt.locks.filter (fun l => !cs.contains l.ctx)
             held := s.slt.held.filter (fun h => !cs.contains h.lock) }
    engine := { s.engine with owed := s.engine.owed.filter (fun c => !cs.contains c) } }
  let s2 := cs.foldl (fun t c => t.setCtx c (.blank (t.ctx c).serial)) s1
  tags.foldl (fun t tag => t.setEntry tag (InFlight.toRouting .held)) s2

/-- What follows when contexts have gone FREE: `first` are routed, then the released held requests, then the arbiter
offers, then the launch conditions are examined (R69, R80, R95). -/
def afterFree (first released : List Nat) : List Work :=
  (first ++ released).map (fun t => .route t false) ++ [.arbiter, .examine]

/-- The tag of a context's request, where it still has one. -/
def Context.request (x : Context) : Option Nat :=
  match x.origin with
  | .tag t => some t
  | .noRequest | .window _ => none

/-- A DEGRADED or FILL context ends early (R85): its operations become orphans or leave the deferred queues, it goes
FREE, and its request is routed again ahead of the held requests. -/
def State.endEarly (s : State) (c : CtxId) : List Work × State :=
  let first := (s.ctx c).request.toList
  let s1 := s.mapPorts (·.orphanCtxs [c])
  let s2 := first.foldl (fun t tag => t.setEntry tag (InFlight.toRouting .issued)) s1
  (afterFree first (s.heldBy [c]), s2.freeCtxs [c])

/-- A context's normal end but for what its kind adds: its flags are ORed into the sticky causes (R94) and it goes FREE
(R69). -/
def State.endNormally (s : State) (c : CtxId) : List Work × State :=
  let s1 := { s with engine := { s.engine with sticky := s.engine.sticky.or (s.ctx c).flags } }
  (afterFree [] (s.heldBy [c]), s1.freeCtxs [c])

/-- The contexts of a job transition are abandoned (R95): their operations become orphans, their cause flags are
discarded, their locks are removed. -/
def State.abandon (s : State) (cs : List CtxId) : State := (s.mapPorts (·.orphanCtxs cs)).freeCtxs cs

/-- The SWEEP contexts in use. -/
def State.sweepCtxs (s : State) : List CtxId :=
  allCtxs.filter (fun c => (s.ctx c).state != .free && (s.ctx c).kind == .sweep)

/-- The FILL contexts in use. -/
def State.fillCtxs (s : State) : List CtxId :=
  allCtxs.filter (fun c => (s.ctx c).state != .free && (s.ctx c).kind == .fill)

/-! ## Lock requests -/

/-- The foreground writes in every port's list whose block address lies from first to last (R63). -/
def State.foregroundWrites (s : State) (first last : Nat) : Nat :=
  (allPorts.map (fun p => (s.port p).list.countP (fun e =>
    e.op.fgWrite && decide (first ≤ e.op.addr) && decide (e.op.addr ≤ last)))).sum

/-- An entry whose context has gone without a result still stands ISSUED, and names no context (R41, R64). -/
def InFlight.withoutCtx (e : InFlight) : InFlight := if e.state = .issued then { e with ctx := none } else e

/-- A context that finds its stripe locked goes back to FREE; the arbiter offers it, and then its request, where it has
one, joins the held queue (R64). That the launch conditions are examined after both: notes/assumptions/10.md. -/
def State.handBack (s : State) (c : CtxId) : List Work × State :=
  let x := s.ctx c
  let s1 := s.setCtx c (.blank x.serial)
  match x.request with
  | some tag => ([.arbiter, .rejoin tag, .examine], s1.setEntry tag InFlight.withoutCtx)
  | none => ([.arbiter, .examine], s1)

/-- A request whose context found its stripe locked joins the held queue, or is answered BUSY (R64 step 2). -/
def State.rejoin (s : State) (tag : Nat) : State :=
  match s.entry? tag with
  | none => s
  | some e =>
    match e.state, e.place, e.forward, e.ctx with
    | .issued, some place, none, none => s.hold tag place.stripe
    | _, _, _, _ => s

/-- A context requests its lock (R63, R64). A launch has found its stripe unlocked (R107). -/
def State.lockRequest (s : State) (c : CtxId) : List Work × State :=
  let x := s.ctx c
  if s.locked x.stripe then s.handBack c
  else
    let first := s.firstBlock x.stripe
    let last := s.lastBlock x.stripe
    let n := s.foregroundWrites first last
    let l : Lock := { ctx := c, stripe := x.stripe, first, last, granted := decide (n = 0), drain := n }
    (if n = 0 then [.startReading c] else [], { s with slt := { s.slt with locks := s.slt.locks ++ [l] } })

/-- The DEGRADED or FILL context that owes its lock request makes it (R63); one that has gone meanwhile owes none. -/
def State.askLock (s : State) : List Work × State :=
  match s.engine.owed with
  | none => ([], s)
  | some c =>
    let s1 := { s with engine := { s.engine with owed := none } }
    if (s.ctx c).state = .locking ∧ (s.ctx c).kind ≠ .sweep then s1.lockRequest c else ([], s1)

/-- Whether the schedule puts the next lock request off (R63): the model's own (notes/assumptions/10.md). -/
def Engine.putsOff (x : Engine) : Bool := x.late.head? == some true

/-- A lock request still owed when the effects of a command are done: it is made now, or put off once more (R63). -/
def State.lockDue (s : State) : List Work × State :=
  if s.engine.owed.isSome then
    let s1 := { s with engine := { s.engine with late := s.engine.late.tail } }
    if s.engine.putsOff then ([], s1) else s1.askLock
  else ([], s)

end Sys2Proof.Machine
end

