-- ==== Sys2Proof/Machine/Job.lean ====
section
/-! DEFINITION. The rebuild job (chapter 6), arming (section 2.7), milestones (section 9.2) and the lost block list
(chapter 8). -/
namespace Sys2Proof.Machine

/-! ## Milestones and the watermark -/

/-- The new W is reported to the milestone table: every entry at or below it is removed and fires, in ascending order
(R146). -/
def State.fireMilestones (s : State) (w : Nat) : State :=
  let due := s.notices.milestones.takeWhile (fun m => m.target ≤ w)
  let rest := s.notices.milestones.dropWhile (fun m => m.target ≤ w)
  due.foldl (fun t m => t.notify (.milestone m.tag w)) { s with notices := { s.notices with milestones := rest } }

/-- W is set at a retirement: the ahead set is trimmed, and a rise is reported to the milestone table (R109 steps 2 to 4). -/
def State.advanceW (s : State) (w : Nat) : State :=
  let s' := { s with job := { s.job with w, ahead := s.job.ahead.filter (fun t => w ≤ t) } }
  if s.job.w < w then s'.fireMilestones w else s'

/-! ## Completion -/

/-- The role of one port in the committed map and in its role copy (R1, R11). -/
def State.setRole (s : State) (p : PortId) (r : Role) : State :=
  { s with target := { s.target with committed := { s.target.committed with
      roles := s.target.committed.roles.set p r } } }.setPort p { s.port p with role := r }

/-- The role exchange for target t and bound spare p (R11): t's old port becomes UNUSED, p becomes MEMBER(t) and loses
the bound mark. -/
def State.roleExchange (s : State) (t : Nat) (p : PortId) : State :=
  let s1 := match s.portOf t with
    | some q => s.setRole q .unused
    | none => s
  let s2 := s1.setRole p (.member t)
  s2.setPort p { s2.port p with bound := false }

/-- The job completes (R112). -/
def State.complete (s : State) : State :=
  match s.job.target, s.job.spare with
  | some t, some p =>
    let s1 := s.fireMilestones s.job.w
    let s2 := s1.roleExchange t p
    let s3 := { s2 with job := { s2.job with ahead := [], window := [], state := .done, cause := .complete } }
    let s4 := s3.notify (.jobState .done .complete s3.job.w)
    (s4.notify (.complete t p)).answerStop .good
  | _, _ => s

/-! ## Retirement -/

/-- The window after the entry of a stripe turned DONE and the DONE entries at the head were removed (R109 step 1). -/
def retireWindow (window : List WindowEntry) (stripe : Nat) : List WindowEntry :=
  (window.map (fun e => if e.stripe = stripe then { e with done := true } else e)).dropWhile (·.done)

/-- The states in which the job can complete by its sweep (R112). -/
def JobState.completable : JobState → Bool
  | .active | .stopping | .paused => true
  | .idle | .armed | .stopped | .halted | .done => false

/-- A sweep context reports completion of its stripe (R109 steps 1 to 5). -/
def State.retire (s : State) (stripe : Nat) : State :=
  let window := retireWindow s.job.window stripe
  let w := match window with
    | e :: _ => e.stripe
    | [] => s.job.n
  let s1 := { s with job := { s.job with window } }.advanceW w
  if window ≠ [] then s1
  else if s1.job.n = s1.stripeCount ∧ s1.job.state.completable then s1.complete
  else if s1.job.state = .stopping then (s1.jobTo .stopped .command).answerStop .good
  else s1

/-- Whether the completion of a stripe retires an entry: it is the head of the window. -/
def Job.retires (j : Job) (stripe : Nat) : Bool :=
  match j.window with
  | e :: _ => e.stripe == stripe
  | [] => false

/-! ## Launching -/

/-- The cursor passes one stripe of the ahead set (R106). -/
def State.skipCursor (s : State) : State :=
  let n := s.job.n + 1
  let s' := { s with job := { s.job with n } }
  if s.job.window = [] then s'.advanceW n else s'

/-- The launch conditions for the stripe at N, contexts apart (R105). -/
def State.mayLaunch (s : State) : Bool :=
  decide (s.job.n < s.stripeCount) && decide (s.job.window.length < s.target.policy.sweepDepth)
    && decide (s.lost.entries.length + s.lost.reservations < Config.lostBound)
    && decide (s.width ≤ s.pacing.credit) && !s.locked s.job.n

/-- A launch of the stripe at N on context c (R107). -/
def State.launch (s : State) (c : CtxId) : State :=
  let t := s.job.n
  let s1 := { s with
    job := { s.job with window := s.job.window ++ [({ stripe := t, done := false } : WindowEntry)], n := t + 1 }
    lost := { s.lost with reservations := s.lost.reservations + 1 }
    pacing := { s.pacing with credit := s.pacing.credit - s.width } }
  s1.setCtx c (Context.taken (s.nextSerial c) .sweep t 0 s.stripBlocks
    (s.memberPortsExcept s.job.target.toList) s.job.spare none (.window t))

/-- The launch conditions are examined (R105, R106): one cursor step, one launch with its lock request or the completion,
and again. The cursor passes ahead-set stripes whatever the credit, and W with it over an empty window (R106), in
every period: pacing gates launches only (notes/assumptions/38.md). -/
def State.examine (s : State) : List Work × State :=
  if s.job.state ≠ .active then ([], s)
  else if s.job.n < s.stripeCount ∧ s.job.n ∈ s.job.ahead then
    ([.examine], s.skipCursor)
  else if s.job.n = s.stripeCount ∧ s.job.window = [] then ([], s.complete)
  else if s.mayLaunch then
    match s.sweepCtx with
    | some c =>
      let r := (s.launch c).lockRequest c
      (r.1 ++ [.examine], r.2)
    | none => ([], s)
  else ([], s)

/-! ## Starting -/

/-- The effects of an accepted start, steps 1 to 5 but for the answer (R102). `fresh` says that it is from IDLE, ARMED
or DONE. -/
def State.start (s : State) (m : Nat) (p : PortId) (r : Nat) (cause : JobCause) (fresh : Bool) : State :=
  let s1 := { s with
    job := { s.job with w := r, n := r, settle := none, armed := none }
    notices := { s.notices with milestones := s.notices.milestones.filter (fun e => r < e.target) } }
  let s2 :=
    if fresh then
      { s1 with job := { s1.job with target := some m, spare := some p } }.setPort p { s1.port p with bound := true }
    else s1
  if r = s.stripeCount then s2.complete else s2.jobTo .active cause

/-! ## Arming -/

/-- The job is armed where the conditions hold (R35, R118). -/
def State.armIfDue (s : State) : State :=
  match s.failedMembers with
  | [m] =>
    if s.target.policy.autoStart ∧ (s.job.state = .idle ∨ s.job.state = .done) then
      { s with job := { s.job with
          armed := some m, settle := some (s.now + s.target.policy.settleTime * 1000000) } }.jobTo .armed .auto
    else s
  | _ => s

/-- Whether the settle timer of an ARMED job has reached its moment (R35). -/
def State.settleDue (s : State) : Bool :=
  match s.job.state, s.job.settle, s.job.armed with
  | .armed, some due, some _ => decide (due ≤ s.now)
  | _, _, _ => false

/-- The arming where it is due, and the expiry of a timer loaded with a SettleTime of 0 as soon as it is loaded, before
anything else still owed (R35). -/
def State.arm (s : State) : List Work × State :=
  let t := s.armIfDue
  (if t.settleDue then [.settleExpiry] else [], t)

/-- The lowest-numbered port that is SPARE and ONLINE (R36). -/
def State.fitSpare (s : State) : Option PortId :=
  allPorts.find? (fun p => (s.port p).role == .spare && (s.port p).health == .online)

/-- The settle timer expires (R36); with no timer running in ARMED there is nothing to expire. -/
def State.settleExpiry (s : State) : List Work × State :=
  match s.job.state, s.job.settle, s.job.armed with
  | .armed, some _, some m =>
    match s.fitSpare with
    | some p => ([.examine], s.start m p 0 .auto true)
    | none => ([], s.jobIdle .auto)
  | _, _, _ => ([], s)

/-! ## Second fault, spare loss, abandonment -/

/-- The reservations left when the window loses its entries: one less for each IN_FLIGHT entry (R137). -/
def State.dropWindow (s : State) : State :=
  { s with
    lost := { s.lost with reservations := s.lost.reservations - s.job.window.countP (fun e => !e.done) }
    job := { s.job with window := [], ahead := [] } }

/-- A second fault (R115). -/
def State.secondFault (s : State) : List Work × State :=
  let cs := s.sweepCtxs
  let s1 := (s.abandon cs).dropWindow
  let s2 := { s1 with job := { s1.job with n := s1.job.w } }
  (afterFree [] (s.heldBy cs), (s2.jobTo .halted .secondFault).answerStop .state)

/-- P's bound mark is cleared (R101). -/
def State.unbind (s : State) : State :=
  match s.job.spare with
  | some p => s.setPort p { s.port p with bound := false }
  | none => s

/-- The job ends unbound with nothing on the spare: steps 2 to 6 of R104 and of R117. -/
def State.jobEnds (s : State) (cause : JobCause) : State :=
  let s1 := s.dropWindow.unbind
  ({ s1 with job := { s1.job with w := 0, n := 0 } }.jobIdle cause).answerStop .state

/-- A spare loss (R117), and the arming that may follow it (R118). -/
def State.spareLoss (s : State) : List Work × State :=
  let fills := s.fillCtxs
  let cs := allCtxs.filter (fun c => s.sweepCtxs.contains c || fills.contains c)
  let back := fills.filterMap (fun c => (s.ctx c).request)
  let s1 := back.foldl (fun t tag => t.setEntry tag (InFlight.toRouting .issued)) s
  let r := ((s1.abandon cs).jobEnds .spareLost).arm
  (r.1 ++ afterFree back (s.heldBy cs), r.2)

/-- An accepted ABANDON_REBUILD, but for its answer (R104): the work that follows the transition, and the state. -/
def State.abandonJob (s : State) : List Work × State :=
  let cs := s.sweepCtxs
  (afterFree [] (s.heldBy cs), (s.abandon cs).jobEnds .command)

/-- The rebuild sequencer is told of a port failure (R32 step 4, R35, R37, R115, R116, R117). -/
def State.sequencerFailure (s : State) (p : PortId) : List Work × State :=
  if (s.port p).bound then s.spareLoss
  else match (s.port p).memberIndex with
    | none => ([], s)
    | some m =>
      match s.job.state with
      | .active | .stopping | .stopped | .paused =>
        if s.job.target = some m then ([], s) else s.secondFault
      | .armed => if s.job.armed = some m then ([], s) else ([], s.jobIdle .secondFault)
      | .idle | .done => s.arm
      | .halted => ([], s)

/-! ## The lost block list -/

/-- The member indices of the ports that gave an input that was not GOOD, ascending (R136). -/
def State.sourceMembers (s : State) (ports : List PortId) : List Nat :=
  (List.range 9).filter (fun m => ports.any (fun p => (s.port p).memberIndex == some m))

/-- The lost entry of a SWEEP context (R136). -/
def State.lostEntry (s : State) (c : CtxId) : LostEntry :=
  let x := s.ctx c
  { stripe := x.stripe, target := s.job.target.getD 0, cause := lostCause x.classes
    sources := s.sourceMembers x.sources, items := lostItems x.classes x.count }

/-- A lost entry is appended, its reservation converted; a full list is reported and pauses an ACTIVE job (R138). -/
def State.appendLost (s : State) (e : LostEntry) : State :=
  let s1 := { s with lost := { entries := s.lost.entries ++ [e], reservations := s.lost.reservations - 1 } }
  let s2 := s1.notify (.lostAdded e.stripe e.items.length)
  if s1.lost.entries.length = Config.lostBound then
    let s3 := s2.notify .lostFull
    if s.job.state = .active then s3.jobTo .paused .lostFull else s3
  else s2

/-- A reservation is released (R137). -/
def State.releaseReservation (s : State) : State :=
  { s with lost := { s.lost with reservations := s.lost.reservations - 1 } }

end Sys2Proof.Machine
end

