-- ==== Sys2Proof/Machine/Engine.lean ====
section
/-! DEFINITION. The reconstruction engine (chapter 5): peer reads, results, spare writes and context ends. -/
namespace Sys2Proof.Machine

/-! ## Peer reads -/

/-- The first block on every port of the stripe a context works on: of its lock entry, whose range was fixed when it was
created (R62); without one, by the committed map (R10). -/
def State.ctxBase (s : State) (c : CtxId) : Nat :=
  match s.slt.locks.find? (fun l => l.ctx == c) with
  | some l => l.first
  | none => s.firstBlock (s.ctx c).stripe

/-- The READ a context offers to every port of its mask (R82). -/
def State.readOp (s : State) (c : CtxId) : DriveOp :=
  let x := s.ctx c
  { kind := .read, addr := s.ctxBase c + x.first, count := x.count, orig := .ctx c x.serial, fgWrite := false
    payload := .none }

/-- A port leaves the outstanding set of a context; when the set is empty every port is final (R83, R86). -/
def State.portFinal (s : State) (c : CtxId) (p : PortId) (lanes : List Lane) (source : Bool) : List Work × State :=
  let x := s.ctx c
  let out := x.outstanding.erase p
  (if out = [] then [.lanesFinal c] else [],
    s.setCtx c { x with lanes, outstanding := out, sources := if source then x.sources ++ [p] else x.sources })

/-- Every lane of a port's strip receives a MISSING input, and the port is final (R84, R85). -/
def State.missingInput (s : State) (c : CtxId) (p : PortId) : List Work × State :=
  s.portFinal c p ((s.ctx c).lanes.map Lane.addMissing) true

/-- The READs of a context are offered in ascending port order (R82). An immediate MISSING is handled at once (R84, R85):
a DEGRADED or FILL context ends early on one from a FAILED port, and offers no more. -/
def offerReads (c : CtxId) : List PortId → State → List Work × State
  | [], s => ([], s)
  | p :: ps, s =>
    let r := s.offerContext c p (s.readOp c)
    if r.1 = .missing then
      if (s.ctx c).kind ≠ .sweep ∧ (s.port p).health = .failed then s.endEarly c
      else
        let m := s.missingInput c p
        let t := offerReads c ps m.2
        (m.1 ++ t.1, t.2)
    else offerReads c ps r.2

/-- A context whose lock is granted enters READING and offers its peer reads (R66, R82). -/
def State.startReading (s : State) (c : CtxId) : List Work × State :=
  let x := s.ctx c
  offerReads c x.mask (s.setCtx c { x with state := .reading, outstanding := x.mask })

/-- A MISSING or FAULT outcome of a peer read (R84, R85). -/
def State.readMissing (s : State) (c : CtxId) (p : PortId) : List Work × State :=
  let x := s.ctx c
  if x.kind = .sweep then
    if (s.port p).health = .online ∧ x.retries.get p < s.target.policy.retryLimit then
      let s1 := s.setCtx c { x with
        retries := x.retries.set p (x.retries.get p + 1), flags := { x.flags with retried := true } }
      ([], (s1.offerContext c p (s1.readOp c)).2)
    else s.missingInput c p
  else if (s.port p).health = .failed then s.endEarly c
  else s.missingInput c p

/-- A READ outcome reaches a context in READING (R83). -/
def State.readOutcome (s : State) (c : CtxId) (p : PortId) (out : Outcome) : List Work × State :=
  match out with
  | .good data => s.portFinal c p (lanesGood (s.ctx c).lanes data) false
  | .unreadable data masks => s.portFinal c p (lanesUnreadable (s.ctx c).lanes data masks) true
  | .fault | .missing => s.readMissing c p

/-! ## Results -/

/-- The response of a request from its context's lanes (R55, R91): `base` is the context's first offset. -/
def resultOf (base : Nat) (lanes : List Lane) (classes : List LaneClass) (place : Place) (count : Nat) : Response :=
  let from_ := place.offset - base
  match (List.range count).find? (fun b => lostMask classes (from_ + b) != 0) with
  | some b =>
    { status := .media, badOffset := place.offset + b, mask := lostMask classes (from_ + b) }
  | none =>
    { status := .good
      payload := .sectors (((lanes.drop (8 * from_)).take (8 * count)).map Lane.output) }

/-- A context's result is delivered to the router, which answers the request; without a request it is discarded (R55,
R91, R92). -/
def State.deliverResult (s : State) (c : CtxId) : State :=
  let x := s.ctx c
  match x.request with
  | none => s
  | some tag =>
    match s.entry? tag with
    | none => s
    | some e =>
      match e.place with
      | none => s
      | some place => s.answer tag (resultOf x.first x.lanes x.classes place e.count)

/-- Whether a FILL may write: its target port carries the bound mark and the job's T is its target member (R92). -/
def State.fillBound (s : State) (c : CtxId) : Bool :=
  match (s.ctx c).target with
  | some p => (s.port p).bound && (s.ctx c).targetMember.isSome && s.job.target == (s.ctx c).targetMember
  | none => false

/-- Every port of a context's mask is final: the lane classes are formed, and the context goes on as its kind asks (R86,
R87, R91, R92). -/
def State.lanesFinal (s : State) (c : CtxId) : List Work × State :=
  let x := s.ctx c
  let classes := x.lanes.map Lane.class
  let s1 := s.setCtx c { x with classes, flags := x.flags.or (laneCauses x.lanes) }
  match x.kind with
  | .sweep => ([.offerSpare c], s1.setCtx c { s1.ctx c with state := .writing })
  | .degraded => (s1.deliverResult c).endNormally c
  | .fill =>
    let s2 := s1.deliverResult c
    let s3 := s2.setCtx c { s2.ctx c with origin := .noRequest }
    if classes.any LaneClass.lost || !s3.fillBound c then s3.endNormally c
    else ([.offerSpare c], s3.setCtx c { s3.ctx c with state := .writing })

/-! ## The spare -/

/-- The operation a context in WRITING or MARKING offers to its target port (R87, R88). -/
def State.spareOp (s : State) (c : CtxId) : DriveOp :=
  let x := s.ctx c
  if x.state = .marking then
    { kind := .markbad, addr := s.ctxBase c, count := x.count, orig := .ctx c x.serial, fgWrite := false
      payload := .marks (lostItems x.classes x.count) }
  else
    { kind := .write, addr := s.ctxBase c, count := x.count, orig := .ctx c x.serial, fgWrite := false
      payload := .sectors (x.lanes.map Lane.output) }

/-- A spare operation got MISSING or FAULT and its port is FAILED (R89): a FILL ends with nothing inserted. A SWEEP has
been ended by the spare loss before (notes/assumptions/21.md). -/
def State.spareGone (s : State) (c : CtxId) : List Work × State :=
  if (s.ctx c).kind = .fill then s.endNormally c else ([], s.setCtx c { s.ctx c with stalled := false })

/-- A context offers its spare operation (R87, R88). A port that is neither ONLINE nor FAILED answers every offer with
MISSING; the context stays, and offers again when the port's health has changed (R89, notes/assumptions/20.md). -/
def State.offerSpare (s : State) (c : CtxId) : List Work × State :=
  let x := s.ctx c
  match x.target with
  | none => ([], s)
  | some p =>
    let r := s.offerContext c p (s.spareOp c)
    if r.1 = .missing then
      if (s.port p).health = .failed then s.spareGone c
      else ([], s.setCtx c { x with flags := { x.flags with retried := true }, stalled := true })
    else ([], r.2.setCtx c { r.2.ctx c with stalled := false })

/-- A spare operation's MISSING or FAULT is delivered (R89). -/
def State.spareMissing (s : State) (c : CtxId) (p : PortId) : List Work × State :=
  if (s.port p).health = .failed then s.spareGone c
  else
    let x := s.ctx c
    ([.offerSpare c], s.setCtx c { x with flags := { x.flags with retried := true } })

/-! ## Context ends -/

/-- A SWEEP context's end, steps 1 to 3 (R90): its completion is reported for the window entry it works for, and from
then on it works for none. Step 4 is the work `sweepFree`. -/
def State.sweepEnd (s : State) (c : CtxId) : List Work × State :=
  let x := s.ctx c
  match x.origin with
  | .window t =>
    let s1 := { s with engine := { s.engine with sticky := s.engine.sticky.or x.flags } }
    let s2 := if x.classes.any LaneClass.lost then s1.appendLost (s1.lostEntry c) else s1.releaseReservation
    ((if s2.job.retires t then [.examine] else []) ++ [.sweepFree c x.serial],
      (s2.setCtx c { x with origin := .noRequest }).retire t)
  | .tag _ | .noRequest => ([], s)

/-- A SWEEP context whose completion has been reported goes FREE, and its lock is released (R90 steps 4 and 5). -/
def State.sweepFree (s : State) (c : CtxId) (serial : Nat) : List Work × State :=
  let x := s.ctx c
  if x.state ≠ .free ∧ x.serial = serial ∧ x.origin = .noRequest then (afterFree [] (s.heldBy [c]), s.freeCtxs [c])
  else ([], s)

/-- A stripe is put into the ahead set, which stays ascending (R110). -/
def insertStripe (t : Nat) : List Nat → List Nat
  | [] => [t]
  | u :: us => if t < u then t :: u :: us else if t = u then u :: us else u :: insertStripe t us

/-- The insertion a FILL offers on the GOOD completion of its spare WRITE (R93, R110). -/
def State.insertAhead (s : State) (c : CtxId) : State :=
  let t := (s.ctx c).stripe
  if s.job.state.sweepable ∧ s.fillBound c ∧ s.job.w ≤ t ∧ !s.spareCurrent t
      ∧ s.job.ahead.length < Config.aheadBound then
    { s with job := { s.job with ahead := insertStripe t s.job.ahead } }
  else s

/-- The spare WRITE of a context completes GOOD (R88, R90, R93). -/
def State.writeGood (s : State) (c : CtxId) : List Work × State :=
  let x := s.ctx c
  if x.kind = .sweep then
    if x.classes.any LaneClass.lost then
      ([.offerSpare c], s.setCtx c { x with state := .marking, flags := { x.flags with poisonWritten := true } })
    else s.sweepEnd c
  else (s.insertAhead c).endNormally c

/-- An outcome is delivered to a context (R22 step 4), unless the taking of the context that made the operation is over. -/
def State.ctxOutcome (s : State) (c : CtxId) (serial : Nat) (p : PortId) (out : Outcome) : List Work × State :=
  let x := s.ctx c
  if x.serial ≠ serial then ([], s)
  else match x.state, out with
    | .reading, out => s.readOutcome c p out
    | .writing, .good _ => s.writeGood c
    | .marking, .good _ => s.sweepEnd c
    | .writing, .fault | .writing, .missing | .marking, .fault | .marking, .missing => s.spareMissing c p
    | .writing, .unreadable _ _ | .marking, .unreadable _ _ => ([], s)
    | .free, _ | .locking, _ => ([], s)

/-- A context whose spare operation waits for its ABSENT target port to change its health, where that has come. Of several
the lowest-numbered comes first: the model's choice (notes/assumptions/20.md). -/
def State.stalledReady (s : State) : Option CtxId :=
  allCtxs.find? (fun c => (s.ctx c).stalled && match (s.ctx c).target with
    | some p => (s.port p).health != .absent
    | none => false)

end Sys2Proof.Machine
end

