-- ==== Sys2Proof/Machine/Router.lean ====
section
/-! DEFINITION. The request router (chapter 3): slots, geometry, the routing decision and outcomes of forwarded
operations. -/
namespace Sys2Proof.Machine

/-! ## Arrival -/

/-- What a slot resolves to (R7). -/
inductive SlotTarget where
  | member | management | noMember
deriving DecidableEq, Repr

/-- The resolution of a slot against the committed map (R7). -/
def State.resolveSlot (s : State) (slot : Nat) : SlotTarget :=
  if slot = 15 then .management else if slot < s.width then .member else .noMember

/-- The stripe of a block address and its offset in the strip (R8). -/
def State.placeOf (s : State) (addr : Nat) : Place :=
  { stripe := addr / s.stripBlocks, offset := addr - addr / s.stripBlocks * s.stripBlocks }

/-- The geometry checks (R9): the refusal, or the stripe and offset (R8). -/
def State.geometry (s : State) (addr count : Nat) : Except Status Place :=
  if count = 0 then .error .range
  else if addr + count > s.stripeCount * s.stripBlocks then .error .range
  else if (s.placeOf addr).offset + count > s.stripBlocks then .error .span
  else .ok (s.placeOf addr)

/-! ## The routing decision -/

/-- The routes of a member request (R47). -/
inductive Route where
  | forward (p : PortId)
  | reconstruct (kind : CtxKind) (mask : List PortId) (target : Option PortId) (targetMember : Option Nat)
  | absorbed
  | lost
deriving DecidableEq, Repr

/-- Whether the lock check holds a request of this operation at this stripe, its member on port p (R67). -/
def State.lockHolds (s : State) (p : PortId) (op : ReqOp) (stripe : Nat) : Bool :=
  s.locked stripe && match op with
    | .write => true
    | .read => (s.port p).health != .online
    | .flush | .manage => false

/-- Whether a READ of T at a stripe that is not spare-current goes FILL (R48). -/
def State.fillAllowed (s : State) : Bool :=
  s.target.policy.aheadFill && decide (s.job.ahead.length < Config.aheadBound) && s.job.state.sweepable

/-- The rows of a failed member in an array that cannot serve the stripe (R47). -/
def lostRoute : ReqOp → Route
  | .flush => .absorbed
  | .read | .write | .manage => .lost

/-- The contribution mask for the second failed member m in a FRACTURED array: the ports of every member other than T and
m, and P, ascending (R49). -/
def State.fracturedMask (s : State) (t m : Nat) (q : PortId) : List PortId :=
  allPorts.filter (fun p => p == q || (s.memberPortsExcept [t, m]).contains p)

/-- The routing table (R47, R49), for member m on port p. -/
def State.routeOf (s : State) (m : Nat) (p : PortId) (op : ReqOp) (stripe : Nat) : Route :=
  if (s.port p).health = .online then .forward p
  else match s.arrayState, s.job.target, s.job.spare with
    | .degraded, _, _ =>
      if op = .read then .reconstruct .degraded (s.memberPortsExcept [m]) none none else .absorbed
    | .rebuilding, some t, some q =>
      if m ≠ t then lostRoute op
      else if s.spareCurrent stripe then .forward q
      else match op with
        | .read =>
          if s.fillAllowed then .reconstruct .fill (s.memberPortsExcept [t]) (some q) (some t)
          else .reconstruct .degraded (s.memberPortsExcept [t]) none none
        | .flush => .forward q
        | .write | .manage => .absorbed
    | .fractured, some t, some q =>
      if stripe < s.job.w then
        if m = t then .forward q
        else if op = .read then .reconstruct .degraded (s.fracturedMask t m q) none none
        else .absorbed
      else lostRoute op
    | _, _, _ => lostRoute op

/-- The drive operation of a forwarded request (R51). -/
def InFlight.driveOp (e : InFlight) : DriveOp :=
  { kind := match e.op with
      | .write => .write
      | .flush => .flush
      | .read | .manage => .read
    addr := e.addr, count := e.count, orig := .tag e.tag, fgWrite := e.op == .write
    payload := if e.op = .write then .sectors e.data else .none }

/-- A request is forwarded to a port (R51). -/
def State.forwardTo (s : State) (e : InFlight) (p : PortId) : List Work × State :=
  let r := s.offerForeground p e.driveOp
  match r.1 with
  | .admitted =>
    ([], r.2.setEntry e.tag (fun x =>
      { x with state := .issued, forward := some (p, e.driveOp.kind), data := [] }))
  | .missing =>
    ([.deliver p e.driveOp .missing], s.setEntry e.tag (fun x =>
      { x with state := .issued, forward := some (p, e.driveOp.kind) }))
  | .busy | .deferred => ([], s.answer e.tag (.plain .busy))

/-- The context record of a request (R49, R78): the whole strip for FILL, the requested blocks for DEGRADED. -/
def State.requestCtx (s : State) (c : CtxId) (e : InFlight) (place : Place) (kind : CtxKind) (mask : List PortId)
    (target : Option PortId) (targetMember : Option Nat) : Context :=
  if kind = .fill then
    Context.taken (s.nextSerial c) kind place.stripe 0 s.stripBlocks mask target targetMember (.tag e.tag)
  else
    Context.taken (s.nextSerial c) kind place.stripe place.offset e.count mask target targetMember (.tag e.tag)

/-- A request routed DEGRADED or FILL takes a context, or joins the context wait list (R49, R78, R80). A context taken
requests its lock before the router's next routing decision (R63): at once, or after the effects of a later command. The
schedule `late` says which (notes/assumptions/10.md). -/
def State.reconstruct (s : State) (e : InFlight) (place : Place) (kind : CtxKind) (mask : List PortId)
    (target : Option PortId) (targetMember : Option Nat) (offered : Bool) : List Work × State :=
  match (if offered ∨ s.engine.waitList = [] then s.foregroundCtx else none) with
  | some c =>
    let s1 := (s.setCtx c (s.requestCtx c e place kind mask target targetMember)).setEntry e.tag
      (fun x => { x with state := .issued, ctx := some c })
    let s2 := { s1 with engine := { s1.engine with late := s.engine.late.tail } }
    if s.engine.putsOff then ([], { s2 with engine := { s2.engine with owed := some c } })
    else s2.lockRequest c
  | none =>
    ([], { s with engine := { s.engine with waitList := s.engine.waitList ++ [e.tag] } }.setEntry e.tag
      (fun x => { x with state := .waiting }))

/-- A routing decision for a mapped member request (R46, R47). -/
def State.decideRoute (s : State) (e : InFlight) (place : Place) (offered : Bool) : List Work × State :=
  match s.portOf e.slot with
  | none => ([], s.answer e.tag (.plain .noMember))
  | some p =>
    if s.lockHolds p e.op place.stripe then ([], s.hold e.tag place.stripe)
    else match s.routeOf e.slot p e.op place.stripe with
      | .forward q => s.forwardTo e q
      | .reconstruct kind mask target tm => s.reconstruct e place kind mask target tm offered
      | .absorbed => ([], s.answer e.tag (.plain .good))
      | .lost => ([], s.answer e.tag (.plain .dataLost))

/-- A request in ROUTING is routed (R46, R56), once a context that owes its lock request has made it (R63). -/
def State.route (s : State) (tag : Nat) (offered : Bool) : List Work × State :=
  if s.engine.owed.isSome then ([.askLock, .route tag offered], s)
  else match s.entry? tag with
  | none => ([], s)
  | some e =>
    match e.state, e.place with
    | .routing, some place => s.decideRoute e place offered
    | _, _ => ([], s)

/-- The arbiter takes the oldest request out of the wait list and offers it a context (R80), once a context that owes its
lock request has made it (R63). -/
def State.arbitrate (s : State) : List Work × State :=
  match s.engine.waitList, s.foregroundCtx with
  | tag :: rest, some _ =>
    if s.engine.owed.isSome then ([.askLock, .arbiter], s)
    else ([.route tag true, .arbiter],
      { s with engine := { s.engine with waitList := rest } }.setEntry tag (InFlight.toRouting .waiting))
  | _, _ => ([], s)

/-! ## Outcomes of forwarded operations -/

/-- A WRITE's data, as it travelled with its operation (notes/assumptions/24.md). -/
def OpPayload.data : OpPayload → List Sector
  | .sectors d => d
  | .none | .marks _ => []

/-- A forwarded operation's outcome reaches the router (R52, R53, R54). -/
def State.routerOutcome (s : State) (tag : Nat) (p : PortId) (op : DriveOp) (out : Outcome) : List Work × State :=
  match s.entry? tag with
  | none => ([], s)
  | some e =>
    if e.state ≠ .issued then ([], s)
    else match out with
      | .good data =>
        ([], s.answer tag { status := .good, payload := if e.op = .read then .sectors data else .none })
      | .unreadable _ masks =>
        let offset := match e.place with
          | some place => place.offset
          | none => 0
        ([], s.answer tag { status := .media, badOffset := offset + (firstBad masks).1, mask := (firstBad masks).2 })
      | .fault | .missing =>
        if (s.port p).health = .failed then
          ([.route tag false], s.setEntry tag (fun x => { x.toRouting .issued with data := op.payload.data }))
        else ([], s.answer tag (.plain .timeout))

/-- An outcome is delivered to the operation's originator (R22 step 4); an orphan's is discarded (R27). -/
def State.deliver (s : State) (p : PortId) (op : DriveOp) (out : Outcome) : List Work × State :=
  match op.orig with
  | .orphan => ([], s)
  | .tag tag => s.routerOutcome tag p op out
  | .ctx c serial => s.ctxOutcome c serial p out

end Sys2Proof.Machine
end

