-- ==== Sys2Proof/Machine/Target.lean ====
section
/-! DEFINITION. The management target (chapter 10): placement, the twenty commands, and the installation of a map. -/
namespace Sys2Proof.Machine

/-! ## Answers -/

/-- A command is answered, and the next one is taken (R156, R157). -/
def State.mgmtAnswer (s : State) (tag : Nat) (r : Response) : List Work × State := ([.nextCommand], s.answer tag r)

/-- A command is answered GOOD with no result record (R157, R179). -/
def State.mgmtGood (s : State) (tag : Nat) : List Work × State := s.mgmtAnswer tag (.plain .good)

/-- A command is answered GOOD with its result record (R179). -/
def State.mgmtResult (s : State) (tag : Nat) (bytes : List Byte) : List Work × State :=
  s.mgmtAnswer tag { status := .good, payload := .record bytes }

/-- A command is refused: its status is latched and answered (R157, R159). -/
def State.mgmtRefuse (s : State) (tag : Nat) (status : Status) : List Work × State :=
  (s.latch status).mgmtAnswer tag (.plain status)

/-- A command answered GOOD after the work its effects bring (R167, R168). -/
def answerAfter (work : List Work) (tag : Nat) (r : Response) : List Work := work ++ [.answer tag r, .nextCommand]

/-! ## Placement -/

/-- The oldest waiting command becomes the command in progress and is taken (R156). -/
def State.nextCommand (s : State) : List Work × State :=
  match s.target.waiting with
  | [] => ([], { s with target := { s.target with current := none } })
  | (tag, record) :: rest =>
    ([.take tag record], { s with target := { s.target with current := some (tag, .taken), waiting := rest } })

/-- A MANAGE request arrives at the target (R156). -/
def State.placeCommand (s : State) (tag : Nat) (record : List Byte) : List Work × State :=
  match s.target.current with
  | none => ([.take tag record], { s with target := { s.target with current := some (tag, .taken) } })
  | some _ =>
    if s.target.waiting.length < Config.waitingBound then
      ([], { s with target := { s.target with waiting := s.target.waiting ++ [(tag, record)] } })
    else ([], (s.latch .busy).answer tag (.plain .busy))

/-! ## Commands that read (R163, R164) -/

/-- IDENTIFY (R163, R179): part code and revision. -/
def State.takeIdentify (s : State) (tag : Nat) (ps : List Byte) : List Work × State :=
  if ps ≠ [] then s.mgmtRefuse tag .format
  else s.mgmtResult tag (le2 Config.partCode ++ [byteOf Config.revision])

/-- READ_STATUS (R164, R180). -/
def State.takeReadStatus (s : State) (tag : Nat) (ps : List Byte) : List Work × State :=
  if ps ≠ [] then s.mgmtRefuse tag .format else s.mgmtResult tag s.statusBytes

/-- READ_MAP (R163, R179): the staged and the committed map. -/
def State.takeReadMap (s : State) (tag : Nat) (ps : List Byte) : List Work × State :=
  if ps ≠ [] then s.mgmtRefuse tag .format
  else s.mgmtResult tag (s.target.staged.bytes ++ s.target.committed.bytes)

/-- READ_PACING (R132, R179). -/
def State.takeReadPacing (s : State) (tag : Nat) (ps : List Byte) : List Work × State :=
  if ps ≠ [] then s.mgmtRefuse tag .format
  else s.mgmtResult tag
    (s.pacing.inForce.bytes ++ s.pacing.staged.bytes ++ [flagByte s.pacing.stagedPending])

/-- READ_MILESTONES (R144, R179). -/
def State.takeReadMilestones (s : State) (tag : Nat) (ps : List Byte) : List Work × State :=
  if ps ≠ [] then s.mgmtRefuse tag .format
  else s.mgmtResult tag
    (byteOf s.notices.milestones.length :: s.notices.milestones.flatMap Milestone.bytes)

/-! ## Maps -/

/-- LOAD_MAP (R3). -/
def State.takeLoadMap (s : State) (tag : Nat) (ps : List Byte) : List Work × State :=
  match parseMap ps with
  | .error e => s.mgmtRefuse tag e
  | .ok m => { s with target := { s.target with staged := m } }.mgmtGood tag

/-- Whether the job lets a map be committed (R4). -/
def JobState.committable : JobState → Bool
  | .idle | .done => true
  | .armed | .active | .stopping | .stopped | .paused | .halted => false

/-- COMMIT_MAP (R4, R165): a refusal, or the drain. The installation follows at the router's report. -/
def State.takeCommitMap (s : State) (tag : Nat) (ps : List Byte) : List Work × State :=
  if ps ≠ [] then s.mgmtRefuse tag .format
  else if !s.job.state.committable then s.mgmtRefuse tag .state
  else if !s.target.staged.valid then s.mgmtRefuse tag .mapInvalid
  else ([], { s with target := { s.target with current := some (tag, .draining) } })

/-- A port at the installation of a map (R5, R6). -/
def Port.installed (x : Port) (r : Role) : Port :=
  let y := { x with role := r, bound := false }
  { y with health := if y.memberIndex.isSome ∧ x.health = .absent then .failed else x.health }

/-- The MEMBER_FAILED notice of a port that a new role set FAILED (R6). -/
def installNotice (p : PortId) (x : Port) (r : Role) : Option Notice :=
  match r with
  | .member i => if x.health = .absent then some (.memberFailed p i .link) else none
  | .spare | .unused => none

/-- The installation of the staged map (R5, R6). -/
def State.installMap (s : State) : State :=
  let m := s.target.staged
  let notices := allPorts.filterMap (fun p => installNotice p (s.port p) (m.roles.get p))
  let s1 := { s with
    target := { s.target with committed := m }
    ports := Vector.ofFn (fun p => (s.port p).installed (m.roles.get p))
    job := { s.job with w := 0, n := 0, window := [], ahead := [] }
    notices := { s.notices with milestones := s.notices.milestones.filter (fun e => e.target ≤ m.stripeCount) } }
  notices.foldl (fun t n => t.notify n) (s1.jobIdle .command)

/-- Whether a COMMIT_MAP in its drain has its report (R45, R165). -/
def State.commitReady (s : State) : Option Nat :=
  match s.target.current with
  | some (tag, .draining) => if s.drained then some tag else none
  | _ => none

/-- The router's report reaches a COMMIT_MAP in its drain: the map is installed, or the command answered STATE (R165
step 3). -/
def State.installReport (s : State) : List Work × State :=
  match s.commitReady with
  | none => ([], s)
  | some tag => if s.job.state.committable then s.installMap.mgmtGood tag else s.mgmtRefuse tag .state

/-! ## Settings -/

/-- SET_PACING (R129, R130). -/
def State.takeSetPacing (s : State) (tag : Nat) (ps : List Byte) : List Work × State :=
  match parsePacing ps with
  | .error e => s.mgmtRefuse tag e
  | .ok (r, now) =>
    let s1 := { s with pacing := { s.pacing with staged := r, stagedPending := true } }
    if now then (answerAfter [.examine] tag (.plain .good), s1.periodEnd s.now) else s1.mgmtGood tag

/-- SET_POLICY (R37, R119, R162). -/
def State.takeSetPolicy (s : State) (tag : Nat) (ps : List Byte) : List Work × State :=
  match parsePolicy ps with
  | .error e => s.mgmtRefuse tag e
  | .ok x =>
    let s1 := { s with target := { s.target with policy := x } }
    (answerAfter [.examine] tag (.plain .good),
      if s.job.state = .armed ∧ !x.autoStart then s1.jobIdle .command else s1)

/-- SET_NOTICES (R149, R169). -/
def State.takeSetNotices (s : State) (tag : Nat) (ps : List Byte) : List Work × State :=
  match parseNotices ps with
  | .error e => s.mgmtRefuse tag e
  | .ok (mask, gap) => { s with notices := { s.notices with mask, gap } }.mgmtGood tag

/-- CLEAR_STICKY (R170). -/
def State.takeClearSticky (s : State) (tag : Nat) (ps : List Byte) : List Work × State :=
  if ps ≠ [] then s.mgmtRefuse tag .format
  else { s with
    engine := { s.engine with sticky := .none }
    notices := { s.notices with lost := false }
    target := { s.target with lastError := none } }.mgmtGood tag

/-! ## The job -/

/-- The job states from which a start is fresh: the resume is bounded by StripeCount (R102). -/
def JobState.fresh : JobState → Bool
  | .idle | .armed | .done => true
  | .active | .stopping | .stopped | .paused | .halted => false

/-- The checks of START_REBUILD, in order (R102): the refusal, or the spare port and the resume stripe. -/
def State.startChecks (s : State) (m p : Byte) (r : Option Nat) : Except Status (PortId × Nat) :=
  if !(s.job.state.fresh || s.job.state == .stopped || s.job.state == .halted) then .error .state
  else match portOfByte p with
  | none => .error .range
  | some q =>
    if s.width ≤ m.toNat then .error .noMember
    else if s.failedMembers ≠ [m.toNat] then .error .state
    else if (s.port q).role ≠ .spare ∨ (s.port q).health ≠ .online then .error .spareUnfit
    else if s.job.state.fresh then
      if s.stripeCount < r.getD 0 then .error .range else .ok (q, r.getD 0)
    else if s.job.target ≠ some m.toNat ∨ s.job.spare ≠ some q then .error .range
    else if s.job.w < r.getD s.job.w then .error .range
    else .ok (q, r.getD s.job.w)

/-- START_REBUILD (R102, R167). -/
def State.takeStart (s : State) (tag : Nat) (ps : List Byte) : List Work × State :=
  match parseStart ps with
  | none => s.mgmtRefuse tag .format
  | some (m, p, r) =>
    match s.startChecks m p r with
    | .error e => s.mgmtRefuse tag e
    | .ok (q, r) =>
      (answerAfter [.examine] tag (.plain .good), s.start m.toNat q r .command s.job.state.fresh)

/-- STOP_REBUILD (R103, R158, R167). -/
def State.takeStop (s : State) (tag : Nat) (ps : List Byte) : List Work × State :=
  if ps ≠ [] then s.mgmtRefuse tag .format
  else match s.job.state with
  | .active | .paused =>
    if s.job.window = [] then (s.jobTo .stopped .command).mgmtGood tag
    else ([.nextCommand], { s with job := { s.job with awaiting := some tag } }.jobTo .stopping .command)
  | .stopping | .stopped => s.mgmtGood tag
  | .idle | .armed | .halted | .done => s.mgmtRefuse tag .state

/-- ABANDON_REBUILD (R104, R167): answered within the transition, before the released requests are routed. -/
def State.takeAbandon (s : State) (tag : Nat) (ps : List Byte) : List Work × State :=
  if ps ≠ [] then s.mgmtRefuse tag .format
  else if s.job.state.bound then
    let r := s.abandonJob
    (r.1 ++ [.nextCommand], r.2.answer tag (.plain .good))
  else s.mgmtRefuse tag .state

/-! ## Ports -/

/-- FAIL_MEMBER (R31, R168). -/
def State.takeFailMember (s : State) (tag : Nat) (ps : List Byte) : List Work × State :=
  match ps with
  | [b] =>
    if s.width ≤ b.toNat then s.mgmtRefuse tag .noMember
    else match s.portOf b.toNat with
    | none => s.mgmtRefuse tag .noMember
    | some p =>
      if (s.port p).health = .online then
        let r := s.failPort p .command
        (answerAfter r.1 tag (.plain .good), r.2)
      else s.mgmtGood tag
  | _ => s.mgmtRefuse tag .format

/-- Whether a port is T's port or carries the bound mark, in a bound job (R33). -/
def State.jobHolds (s : State) (p : PortId) : Bool :=
  s.job.state.bound && ((s.port p).bound || match s.job.target with
    | some t => s.portOf t == some p
    | none => false)

/-- Whether the armed member's port is no longer FAILED (R37). -/
def State.armedRestored (s : State) : Bool :=
  match s.job.state, s.job.armed with
  | .armed, some m =>
    match s.portOf m with
    | some p => (s.port p).health != .failed
    | none => false
  | _, _ => false

/-- RESTORE_PORT (R33, R37, R168). -/
def State.takeRestorePort (s : State) (tag : Nat) (ps : List Byte) : List Work × State :=
  match ps with
  | [b] =>
    match portOfByte b with
    | none => s.mgmtRefuse tag .range
    | some p =>
      if s.jobHolds p then s.mgmtRefuse tag .jobBound
      else
        let s1 := s.setPort p (s.port p).restored
        (if s1.armedRestored then s1.jobIdle .command else s1).mgmtGood tag
  | _ => s.mgmtRefuse tag .format

/-- CLEAR_HEALTH (R34, R168). -/
def State.takeClearHealth (s : State) (tag : Nat) (ps : List Byte) : List Work × State :=
  match ps with
  | [b] =>
    match portOfByte b with
    | none => s.mgmtRefuse tag .range
    | some p => (s.setPort p { s.port p with errors := 0 }).mgmtGood tag
  | _ => s.mgmtRefuse tag .format

/-! ## Milestones, the lost block list, the reset -/

/-- LOAD_MILESTONES (R145). -/
def State.takeLoadMilestones (s : State) (tag : Nat) (ps : List Byte) : List Work × State :=
  match parseMilestones ps s.stripeCount with
  | .error e => s.mgmtRefuse tag e
  | .ok ms =>
    { s with notices := { s.notices with milestones := ms.filter (fun m => s.job.w < m.target) } }.mgmtGood tag

/-- The state after TAKE_LOST removed its entries (R140 steps 1 and 2). -/
def State.removeLost (s : State) (count : Nat) : State :=
  let s1 := { s with lost := { s.lost with entries := s.lost.entries.drop count } }
  if s.job.state = .paused then s1.jobTo .active .command else s1

/-- TAKE_LOST (R140). -/
def State.takeTakeLost (s : State) (tag : Nat) (ps : List Byte) : List Work × State :=
  match ps with
  | [n] =>
    if n.toNat = 0 ∨ 8 < n.toNat then s.mgmtRefuse tag .range
    else
      let taken := s.lost.entries.take n.toNat
      let r : Response :=
        { status := .good, payload := .record (byteOf taken.length :: taken.flatMap LostEntry.bytes) }
      if taken = [] then s.mgmtAnswer tag r else (answerAfter [.examine] tag r, s.removeLost n.toNat)
  | _ => s.mgmtRefuse tag .format

/-- RESET_BRIDGE (R158, R171): answered GOOD, and in progress until its response frame has been sent. -/
def State.takeReset (s : State) (tag : Nat) (ps : List Byte) : List Work × State :=
  if ps ≠ [] then s.mgmtRefuse tag .format
  else ([], { s with target := { s.target with current := some (tag, .resetting) } }.answer tag (.plain .good))

/-! ## Taking a command -/

/-- The management target takes a command: its code, then its length, then its own checks (R157, R177). -/
def State.takeCommand (s : State) (tag : Nat) (record : List Byte) : List Work × State :=
  match record with
  | [] => s.mgmtRefuse tag .format
  | code :: ps =>
    match code.toNat with
    | 0x01 => s.takeIdentify tag ps
    | 0x02 => s.takeReadStatus tag ps
    | 0x03 => s.takeLoadMap tag ps
    | 0x04 => s.takeCommitMap tag ps
    | 0x05 => s.takeReadMap tag ps
    | 0x06 => s.takeSetPacing tag ps
    | 0x07 => s.takeReadPacing tag ps
    | 0x08 => s.takeSetPolicy tag ps
    | 0x09 => s.takeStart tag ps
    | 0x0A => s.takeStop tag ps
    | 0x0B => s.takeAbandon tag ps
    | 0x0C => s.takeFailMember tag ps
    | 0x0D => s.takeRestorePort tag ps
    | 0x0E => s.takeClearHealth tag ps
    | 0x0F => s.takeLoadMilestones tag ps
    | 0x10 => s.takeReadMilestones tag ps
    | 0x11 => s.takeTakeLost tag ps
    | 0x12 => s.takeSetNotices tag ps
    | 0x13 => s.takeClearSticky tag ps
    | 0x14 => s.takeReset tag ps
    | _ => s.mgmtRefuse tag .unknown

end Sys2Proof.Machine
end

