-- ==== Sys2Proof/Machine/ChannelPort.lean ====
section
/-! DEFINITION. The channel port (chapters 3 and 11): the form of a frame, its tag, its slot; what leaves upstream; and
the three resets. -/
namespace Sys2Proof.Machine

/-- The length a request frame to a member must have (R42, R174). -/
def MemberOp.frameLength (op : MemberOp) (h : Header) : Nat :=
  match op with
  | .read | .flush => 7
  | .write => 7 + 4096 * h.count.toNat

/-- The operation of an in-flight entry. -/
def MemberOp.reqOp : MemberOp → ReqOp
  | .read => .read
  | .write => .write
  | .flush => .flush

/-- The entry a well-formed request creates, in ROUTING (R40, R43). -/
def newEntry (op : ReqOp) (h : Header) (data : List Sector) : InFlight :=
  { tag := h.tag.toNat, slot := h.slot.toNat, op, addr := h.addr.toNat, count := h.count.toNat, place := none, data
    state := .routing, forward := none, ctx := none, response := none }

/-- A new entry joins the table (R43). -/
def State.addEntry (s : State) (e : InFlight) : State := { s with table := s.table ++ [e] }

/-- Whether a COMMIT_MAP is in its drain (R45). -/
def State.committing (s : State) : Bool :=
  match s.target.current with
  | some (_, .draining) => true
  | _ => false

/-- A new member request goes through its slot, the commit drain and its geometry, and on to routing (R44, R45, R9). Its
entry has its stripe and offset from the geometry checks on (R8, R40). -/
def State.newMember (s : State) (e : InFlight) : List Work × State :=
  match s.resolveSlot e.slot with
  | .management => ([], s.answer e.tag (.plain .format))
  | .noMember => ([], s.answer e.tag (.plain .noMember))
  | .member =>
    if s.committing then ([], s.answer e.tag (.plain .busy))
    else
      let placed := s.setEntry e.tag (fun x => { x with place := some (s.placeOf e.addr) })
      match s.geometry e.addr e.count with
      | .error st => ([], placed.answer e.tag (.plain st))
      | .ok _ => ([.route e.tag false], placed)

/-- A new MANAGE request goes through its slot and on to the management target (R44). -/
def State.newManage (s : State) (e : InFlight) (record : List Byte) : List Work × State :=
  match s.resolveSlot e.slot with
  | .management => (s.setEntry e.tag (fun x => { x with state := .issued })).placeCommand e.tag record
  | .noMember => ([], s.answer e.tag (.plain .noMember))
  | .member => ([], s.answer e.tag (.plain .format))

/-- The channel port takes a frame: its form (R42, R174), its tag (R43), then its slot (R44). -/
def State.takeFrame (s : State) (f : Frame) : List Work × State :=
  match f with
  | .unknownOperation tag => ([], s.refuseFrame tag .unknown)
  | .tooShort tag => ([], s.refuseFrame tag .format)
  | .member op h len data =>
    if Config.tagBound < h.tag.toNat ∨ len ≠ op.frameLength h then ([], s.refuseFrame h.tag .format)
    else if (s.entry? h.tag.toNat).isSome then ([], s.refuseFrame h.tag .tagInUse)
    else
      let e := newEntry op.reqOp h (if op = .write then data else [])
      (s.addEntry e).newMember e
  | .manage h record =>
    if Config.tagBound < h.tag.toNat ∨ record = [] then ([], s.refuseFrame h.tag .format)
    else if (s.entry? h.tag.toNat).isSome then ([], s.refuseFrame h.tag .tagInUse)
    else
      let e := newEntry .manage h []
      (s.addEntry e).newManage e record

/-! ## Resets -/

/-- The state after a power-on or bridge reset: every block at its reset values, the links, the operation identities and
the model's own schedule as they stand (R15, R38, R61, R74, R97, R120, R133, R142, R154, R172). -/
def State.resetAs (s : State) (kind : ResetKind) (linkFrames : List Frame) : State :=
  { State.reset with
    channel := .afterReset s.channel.up linkFrames
    engine := { State.reset.engine with late := s.engine.late }
    ports := s.ports.map (fun x => .afterReset x.link x.nextId)
    target := .afterReset kind
    pending := s.pending }

/-- A power-on reset (R38, R160). -/
def State.powerOnReset (s : State) : State := s.resetAs .power []

/-- The bridge reset (R171, R160). What the link still holds is outside the bridge (notes/assumptions/11.md). -/
def State.bridgeReset (s : State) : State := s.resetAs .bridge s.channel.linkFrames

/-- A context after a channel reset (R98): a DEGRADED or FILL context has no request any more. -/
def Context.dropRequest (x : Context) : Context :=
  match x.origin with
  | .tag _ => { x with origin := .noRequest }
  | .noRequest | .window _ => x

/-- Whether a channel reset loses a notice (R152, R155). -/
def State.losesNotice (s : State) : Bool :=
  s.notices.queue != [] || match s.channel.tx with
    | .notice _ => true
    | .idle | .response => false

/-- A channel reset (R16, R39, R60, R75, R98, R121, R134, R143, R155, R172). That the re-initialised link is up or down as
it was before is the model's choice (notes/assumptions/27.md). -/
def State.channelReset (s : State) : State :=
  { s with
    channel := .afterReset s.channel.up []
    table := []
    slt := { s.slt with held := [] }
    engine := { s.engine with ctxs := s.engine.ctxs.map Context.dropRequest, waitList := [] }
    ports := s.ports.map Port.orphanTags
    job := { s.job with awaiting := none }
    notices := { s.notices with queue := [], lost := s.notices.lost || s.losesNotice }
    target := { s.target with current := none, waiting := [], lastReset := .channel } }

/-! ## Frames sent -/

/-- A response frame has been sent in full: it leaves the queue, its entry is freed (R58); after the answer of a
RESET_BRIDGE the bridge reset takes place at that moment (R171). -/
def State.responseSent (s : State) : State :=
  match s.channel.tx, s.channel.responses with
  | .response, r :: rest =>
    let s1 := { s with channel := { s.channel with responses := rest, tx := .idle } }
    match r with
    | .refusal _ _ => s1
    | .entry tag =>
      if s.target.current = some (tag, .resetting) then s1.bridgeReset
      else { s1 with table := s.table.filter (fun e => e.tag != tag) }
  | _, _ => s

/-- A notice frame has been sent in full: the gap runs from this moment (R59, R153). -/
def State.noticeSent (s : State) : State :=
  match s.channel.tx with
  | .notice _ => { s with channel := { s.channel with tx := .idle, lastNotice := some s.now } }
  | .idle | .response => s

/-- The gap elapses: the clock moves to the moment NoticeGap has passed since the previous notice frame (R59). -/
def State.gapElapses (s : State) : State :=
  match s.channel.lastNotice with
  | some t => s.advanceTo (t + s.notices.gap * 1000)
  | none => s

end Sys2Proof.Machine
end

