-- ==== Sys2Proof/Machine/Cascade.lean ====
section
/-! DEFINITION. How one command's effects unfold: `handle` gives each internal effect, `run` works an agenda off, the
newest effects first, and `cascade` is what a meaning calls. -/
namespace Sys2Proof.Machine

/-- What a meaning answers. -/
abbrev Result := Host.Outcome State Fault Refusal

/-- What is due when the effects of a command have come to rest: the report to a draining commit (R45, R165), a spare
operation whose port has changed its health (R89), a settle timer that the clock has reached (R36), the next frame the
link holds, while it is up and the refusal list has room (R42, R60), and the transmitter's choice (R59). That they come
in this order is the model's choice (notes/assumptions/23.md). -/
def State.settle (s : State) : List Work × State :=
  if s.commitReady.isSome then
    let r := s.installReport
    (r.1 ++ [.settle], r.2)
  else match s.stalledReady with
  | some c => ([.offerSpare c, .settle], s)
  | none =>
    if s.settleDue then ([.settleExpiry, .settle], s)
    else match s.channel.linkFrames with
    | [] => ([], s.transmit)
    | f :: rest =>
      if s.channel.up ∧ s.channel.refusals < Config.refusalBound then
        let r := { s with channel := { s.channel with linkFrames := rest } }.takeFrame f
        (r.1 ++ [.settle], r.2)
      else ([], s.transmit)

/-- One internal effect: the state it leaves, and the effects that come before anything else still owed. -/
def handle (w : Work) (s : State) : List Work × State :=
  match w with
  | .route tag offered => s.route tag offered
  | .askLock => s.askLock
  | .lockDue => s.lockDue
  | .rejoin tag => ([], s.rejoin tag)
  | .startReading c => s.startReading c
  | .lanesFinal c => s.lanesFinal c
  | .offerSpare c => s.offerSpare c
  | .sweepFree c serial => s.sweepFree c serial
  | .deliver p op out => s.deliver p op out
  | .afterDeparture p => ([], s.afterDeparture p)
  | .countError p => s.countError p
  | .sequencerFailure p => s.sequencerFailure p
  | .emptyList p => s.emptyList p
  | .emptyWaiting p => s.emptyWaiting p
  | .emptyDeferred p => s.emptyDeferred p
  | .arbiter => s.arbitrate
  | .examine => s.examine
  | .take tag record => s.takeCommand tag record
  | .answer tag r => ([], s.answer tag r)
  | .nextCommand => s.nextCommand
  | .settleExpiry => s.settleExpiry
  | .settle => s.settle

/-- An agenda is worked off within a bound; none where the bound is reached first. -/
def run : Nat → List Work → State → Option State
  | _, [], s => some s
  | 0, _ :: _, _ => none
  | n + 1, w :: ws, s => run n ((handle w s).1 ++ ws) (handle w s).2

/-- What an earlier command has left owing (R63): its context requests its lock once the command that comes now has had
all its effects, a frame's among them, so that a launch may come between; or later still (notes/assumptions/10.md). -/
def State.owedWork (s : State) : List Work := if s.engine.owed.isSome then [.settle, .lockDue] else []

/-- A command's effects, to rest (notes/assumptions/6.md), a lock request owed from before it among them. -/
def cascade (work : List Work) (s : State) : Result :=
  match run Config.cascadeBound (work ++ s.owedWork ++ [.settle]) s with
  | some t => .next t
  | none => .fault .unsettled

/-- A frame reaches the channel port: it joins what the link holds, and the port takes it as soon as the refusal list has
room (R42). While the upstream link is down no frame arrives (R60). -/
def receive (f : Frame) (s : State) : Result :=
  if s.channel.up then
    cascade [] { s with channel := { s.channel with linkFrames := s.channel.linkFrames ++ [f] } }
  else .next s

end Sys2Proof.Machine
end

