-- ==== Sys2Proof/Machine/Events.lean ====
section
/-! DEFINITION. The meanings of the events that are no frames: internal events, resets, links, drives, time and the
transmitter. An event that the state has no place for changes nothing. -/
namespace Sys2Proof.Machine

/-! ## Internal events -/

/-- MAP_INSTALLATION (R5, R45, R165): the router's report to a COMMIT_MAP in its drain. Without such a command, or while a
member request is still open, there is no report. -/
def execMapInstallation (s : State) : Result :=
  if s.commitReady.isSome then cascade s.installReport.1 s.installReport.2 else .next s

/-- LOCK_GRANTED (R66): the DRAINING lock of this context has a drain count of 0. -/
def execLockGranted (ctx : CtxId) (s : State) : Result :=
  if s.slt.locks.any (fun l => l.ctx == ctx && !l.granted && l.drain == 0) then
    cascade (s.grant ctx).1 (s.grant ctx).2
  else .next s

/-- PERIOD_END (R123, R124): the remaining ticks of the current period expire, the last of them with the period end. -/
def execPeriodEnd (s : State) : Result :=
  cascade [.examine] ((s.advanceTo s.pacing.periodDue).periodEnd s.pacing.periodDue)

/-! ## Resets and the upstream link -/

/-- BRIDGE_RESET (R171). -/
def execBridgeReset (s : State) : Result := cascade [] s.bridgeReset

/-- POWER_ON_RESET (R38). -/
def execPowerOnReset (s : State) : Result := .next s.powerOnReset

/-- CHANNEL_RESET (R60). -/
def execChannelReset (s : State) : Result := .next s.channelReset

/-- UPSTREAM_LINK_DOWN (R60): no effect but that the link is down. -/
def execUpstreamLinkDown (s : State) : Result := .next { s with channel := { s.channel with up := false } }

/-- UPSTREAM_LINK_UP (R60): the link is up, and the transmitter may begin a frame (R59). -/
def execUpstreamLinkUp (s : State) : Result := cascade [] { s with channel := { s.channel with up := true } }

/-! ## Drives -/

/-- DRIVE_LINK_UP (R28). -/
def execDriveLinkUp (port : PortId) (s : State) : Result := cascade [] (s.linkUp port)

/-- DRIVE_LINK_DOWN (R29). -/
def execDriveLinkDown (port : PortId) (s : State) : Result := cascade (s.linkDown port).1 (s.linkDown port).2

/-- DRIVE_COMPLETION (R22): one that matches no entry is discarded without effect. -/
def execDriveCompletion (port : PortId) (id : Nat) (report : Report) (s : State) : Result :=
  if ((s.port port).outstanding? id).isSome then
    cascade (s.driveCompletion port id report).1 (s.driveCompletion port id report).2
  else .next s

/-- DRIVE_TIMEOUT (R24): the deadline of an outstanding entry expires. -/
def execDriveTimeout (port : PortId) (id : Nat) (s : State) : Result :=
  if ((s.port port).outstanding? id).isSome then
    cascade (s.driveTimeout port id).1 (s.driveTimeout port id).2
  else .next s

/-! ## Time -/

/-- SETTLE_TIMER_EXPIRY (R36): the clock moves to the moment of the running timer. -/
def execSettleTimerExpiry (s : State) : Result :=
  match s.job.settle with
  | some due => cascade [.settleExpiry] (s.advanceTo due)
  | none => .next s

/-- TICK (R123). -/
def execTick (s : State) : Result := cascade s.tickExpiry.1 s.tickExpiry.2

/-- NOTICE_GAP_ELAPSED (R59). -/
def execNoticeGapElapsed (s : State) : Result := cascade [] s.gapElapses

/-! ## The transmitter -/

/-- RESPONSE_FRAME_SENT (R58): while no response is being sent there is nothing to finish. -/
def execResponseFrameSent (s : State) : Result :=
  if s.channel.tx = .response then cascade [] s.responseSent else .next s

/-- NOTICE_FRAME_SENT (R153): while no notice is being sent there is nothing to finish. -/
def execNoticeFrameSent (s : State) : Result :=
  match s.channel.tx with
  | .notice _ => cascade [] s.noticeSent
  | .idle | .response => .next s

end Sys2Proof.Machine
end

