-- ==== Sys2Proof/Machine/Management.lean ====
section
/-! DEFINITION. The meanings of the MANAGE frames, one a command: the frame with its command code (R177) reaches the
channel port, and the management target takes it as Machine/Target.lean says. -/
namespace Sys2Proof.Machine

/-- UNKNOWN_COMMAND (R157, R177): the whole record as sent; the empty record is refused FORMAT by the channel port. -/
def execUnknownCommand (h : Header) (record : List Byte) (s : State) : Result := receive (.manage h record) s

/-- IDENTIFY (R163). -/
def execIdentify (h : Header) (params : List Byte) (s : State) : Result := receive (.manage h (0x01 :: params)) s

/-- READ_STATUS (R164). -/
def execReadStatus (h : Header) (params : List Byte) (s : State) : Result := receive (.manage h (0x02 :: params)) s

/-- LOAD_MAP (R3). -/
def execLoadMap (h : Header) (params : List Byte) (s : State) : Result := receive (.manage h (0x03 :: params)) s

/-- COMMIT_MAP (R4, R165). -/
def execCommitMap (h : Header) (params : List Byte) (s : State) : Result := receive (.manage h (0x04 :: params)) s

/-- READ_MAP (R163). -/
def execReadMap (h : Header) (params : List Byte) (s : State) : Result := receive (.manage h (0x05 :: params)) s

/-- SET_PACING (R129, R130). -/
def execSetPacing (h : Header) (params : List Byte) (s : State) : Result := receive (.manage h (0x06 :: params)) s

/-- READ_PACING (R132). -/
def execReadPacing (h : Header) (params : List Byte) (s : State) : Result := receive (.manage h (0x07 :: params)) s

/-- SET_POLICY (R162). -/
def execSetPolicy (h : Header) (params : List Byte) (s : State) : Result := receive (.manage h (0x08 :: params)) s

/-- START_REBUILD (R102). -/
def execStartRebuild (h : Header) (params : List Byte) (s : State) : Result := receive (.manage h (0x09 :: params)) s

/-- STOP_REBUILD (R103). -/
def execStopRebuild (h : Header) (params : List Byte) (s : State) : Result := receive (.manage h (0x0A :: params)) s

/-- ABANDON_REBUILD (R104). -/
def execAbandonRebuild (h : Header) (params : List Byte) (s : State) : Result := receive (.manage h (0x0B :: params)) s

/-- FAIL_MEMBER (R31). -/
def execFailMember (h : Header) (params : List Byte) (s : State) : Result := receive (.manage h (0x0C :: params)) s

/-- RESTORE_PORT (R33). -/
def execRestorePort (h : Header) (params : List Byte) (s : State) : Result := receive (.manage h (0x0D :: params)) s

/-- CLEAR_HEALTH (R34). -/
def execClearHealth (h : Header) (params : List Byte) (s : State) : Result := receive (.manage h (0x0E :: params)) s

/-- LOAD_MILESTONES (R145). -/
def execLoadMilestones (h : Header) (params : List Byte) (s : State) : Result := receive (.manage h (0x0F :: params)) s

/-- READ_MILESTONES (R144). -/
def execReadMilestones (h : Header) (params : List Byte) (s : State) : Result := receive (.manage h (0x10 :: params)) s

/-- TAKE_LOST (R140). -/
def execTakeLost (h : Header) (params : List Byte) (s : State) : Result := receive (.manage h (0x11 :: params)) s

/-- SET_NOTICES (R169). -/
def execSetNotices (h : Header) (params : List Byte) (s : State) : Result := receive (.manage h (0x12 :: params)) s

/-- CLEAR_STICKY (R170). -/
def execClearSticky (h : Header) (params : List Byte) (s : State) : Result := receive (.manage h (0x13 :: params)) s

/-- RESET_BRIDGE (R171). -/
def execResetBridge (h : Header) (params : List Byte) (s : State) : Result := receive (.manage h (0x14 :: params)) s

end Sys2Proof.Machine
end

