-- ==== Sys2Proof/Machine/Requests.lean ====
section
/-! DEFINITION. The meanings of the frames to members and of the frames the channel port cannot read. -/
namespace Sys2Proof.Machine

/-- READ (R42 to R47, R174). -/
def execRead (h : Header) (len : Nat) (s : State) : Result := receive (.member .read h len []) s

/-- WRITE (R42 to R47, R174). -/
def execWrite (h : Header) (len : Nat) (data : List Sector) (s : State) : Result :=
  receive (.member .write h len data) s

/-- FLUSH (R42 to R47, R174). -/
def execFlush (h : Header) (len : Nat) (s : State) : Result := receive (.member .flush h len []) s

/-- UNKNOWN_OPERATION_FRAME: refused UNKNOWN into the refusal list, with the tag byte as received, whatever the length
(R42, R174). -/
def execUnknownOperationFrame (tag : Byte) (_op : BitVec 4) (_len : Nat) (s : State) : Result :=
  receive (.unknownOperation tag) s

/-- FRAME_TOO_SHORT: refused FORMAT, with byte 0 as its tag, or 0 where the frame has no byte (R174). -/
def execFrameTooShort (first : Option Byte) (s : State) : Result := receive (.tooShort (first.getD 0)) s

end Sys2Proof.Machine
end

