-- ==== Sys2Proof/Machine/Dispatch.lean ====
section
/-! DEFINITION. One arm per command: a direct call of its meaning. -/
namespace Sys2Proof.Machine

def exec (i : Instr) (s : State) : Host.Outcome State Fault Refusal :=
  match i with
  | .read h len => Sys2Proof.Machine.execRead h len s
  | .write h len data => Sys2Proof.Machine.execWrite h len data s
  | .flush h len => Sys2Proof.Machine.execFlush h len s
  | .unknownOperationFrame tag op len => Sys2Proof.Machine.execUnknownOperationFrame tag op len s
  | .unknownCommand h record => Sys2Proof.Machine.execUnknownCommand h record s
  | .identify h params => Sys2Proof.Machine.execIdentify h params s
  | .readStatus h params => Sys2Proof.Machine.execReadStatus h params s
  | .loadMap h params => Sys2Proof.Machine.execLoadMap h params s
  | .commitMap h params => Sys2Proof.Machine.execCommitMap h params s
  | .readMap h params => Sys2Proof.Machine.execReadMap h params s
  | .setPacing h params => Sys2Proof.Machine.execSetPacing h params s
  | .readPacing h params => Sys2Proof.Machine.execReadPacing h params s
  | .setPolicy h params => Sys2Proof.Machine.execSetPolicy h params s
  | .startRebuild h params => Sys2Proof.Machine.execStartRebuild h params s
  | .stopRebuild h params => Sys2Proof.Machine.execStopRebuild h params s
  | .abandonRebuild h params => Sys2Proof.Machine.execAbandonRebuild h params s
  | .failMember h params => Sys2Proof.Machine.execFailMember h params s
  | .restorePort h params => Sys2Proof.Machine.execRestorePort h params s
  | .clearHealth h params => Sys2Proof.Machine.execClearHealth h params s
  | .loadMilestones h params => Sys2Proof.Machine.execLoadMilestones h params s
  | .readMilestones h params => Sys2Proof.Machine.execReadMilestones h params s
  | .takeLost h params => Sys2Proof.Machine.execTakeLost h params s
  | .setNotices h params => Sys2Proof.Machine.execSetNotices h params s
  | .clearSticky h params => Sys2Proof.Machine.execClearSticky h params s
  | .resetBridge h params => Sys2Proof.Machine.execResetBridge h params s
  | .mapInstallation => Sys2Proof.Machine.execMapInstallation s
  | .bridgeReset => Sys2Proof.Machine.execBridgeReset s
  | .powerOnReset => Sys2Proof.Machine.execPowerOnReset s
  | .channelReset => Sys2Proof.Machine.execChannelReset s
  | .upstreamLinkDown => Sys2Proof.Machine.execUpstreamLinkDown s
  | .upstreamLinkUp => Sys2Proof.Machine.execUpstreamLinkUp s
  | .driveLinkUp port => Sys2Proof.Machine.execDriveLinkUp port s
  | .driveLinkDown port => Sys2Proof.Machine.execDriveLinkDown port s
  | .driveCompletion port id report => Sys2Proof.Machine.execDriveCompletion port id report s
  | .driveTimeout port id => Sys2Proof.Machine.execDriveTimeout port id s
  | .settleTimerExpiry => Sys2Proof.Machine.execSettleTimerExpiry s
  | .tick => Sys2Proof.Machine.execTick s
  | .periodEnd => Sys2Proof.Machine.execPeriodEnd s
  | .noticeGapElapsed => Sys2Proof.Machine.execNoticeGapElapsed s
  | .responseFrameSent => Sys2Proof.Machine.execResponseFrameSent s
  | .noticeFrameSent => Sys2Proof.Machine.execNoticeFrameSent s
  | .lockGranted ctx => Sys2Proof.Machine.execLockGranted ctx s
  | .frameTooShort first => Sys2Proof.Machine.execFrameTooShort first s

end Sys2Proof.Machine
end

