-- ==== Sys2Proof/Safety.lean ====
section
/-! DEFINITION. What a safe state is: the bounds and bonds the manual promises of the whole bridge, and the states in
which nothing is due besides what the next command brings. -/
namespace Sys2Proof.Machine

/-! ## Nothing due -/

/-- The free transmitter has nothing it may begin (R59). -/
def State.txRests (s : State) : Prop :=
  s.channel.tx = .idle → s.channel.responses = [] ∧ (s.notices.queue = [] ∨ s.gapElapsed = false)

/-- Between two commands with nothing left over but what the transmitter may choose: the upstream link is up and holds
no frame, no commit waits for its report, no spare operation waits for its port, no settle timer is due, and no context
owes its lock request. -/
structure State.Rests (s : State) : Prop where
  up : s.channel.up = true
  link : s.channel.linkFrames = []
  commit : s.commitReady = none
  stall : ∀ c, (s.ctx c).stalled = false
  timer : s.settleDue = false
  owed : s.engine.owed = none

/-- A bridge at rest whose transmitter rests too. -/
structure State.Quiet (s : State) : Prop extends s.Rests where
  tx : s.txRests

/-- A bridge at rest that takes a frame with this header and gives it an in-flight entry (R42, R43). -/
structure State.Takes (s : State) (h : Header) : Prop extends s.Rests where
  room : s.channel.refusals < Config.refusalBound
  tag : h.tag.toNat ≤ Config.tagBound
  free : s.entry? h.tag.toNat = none

/-- A bridge at rest whose management target takes a command with this header at once (R44, R156). -/
structure State.Serves (s : State) (h : Header) : Prop extends s.Takes h where
  slot : h.slot = 15
  current : s.target.current = none
  waiting : s.target.waiting = []

/-- An examination of the launch conditions changes nothing, for want of an ACTIVE job or of credit: the cursor stands at
a stripe outside the ahead set, and the job is not at its end (R105, R106, R112). -/
def State.noLaunch (s : State) : Prop :=
  s.job.state = .active → s.pacing.credit < s.width ∧ s.job.n ∉ s.job.ahead ∧
    (s.job.n ≠ s.stripeCount ∨ s.job.window ≠ [])

/-! ## What a command's answer adds to the state -/

/-- The transmitter once a response has joined the queue with the link up (R59): a free one begins a response. -/
def Transmitter.busy : Transmitter → Transmitter
  | .idle => .response
  | .response => .response
  | .notice n => .notice n

/-- The state with a refusal in the refusal list and nothing else changed (R42, R43, R58). -/
def State.withRefusal (s : State) (tag : Byte) (status : Status) : State :=
  { s with channel := { s.channel with
      responses := s.channel.responses ++ [.refusal tag status], tx := s.channel.tx.busy } }

/-- The state with one more in-flight entry, answered, and its response in the queue (R41, R58). -/
def State.withAnswered (s : State) (e : InFlight) (r : Response) : State :=
  { s with
    table := s.table ++ [{ e with state := .answered, forward := none, ctx := none, data := [], response := some r }]
    channel := { s.channel with responses := s.channel.responses ++ [.entry e.tag], tx := s.channel.tx.busy } }

/-- The state in which a management command with this header has been answered and nothing else has changed. -/
def State.withMgmt (s : State) (h : Header) (r : Response) : State := s.withAnswered (newEntry .manage h []) r

/-- The state in which a management command has been answered GOOD with no result record (R179). -/
def State.mgmtDone (s : State) (h : Header) : State := s.withMgmt h (.plain .good)

/-- The state in which a management command has been refused: its status is latched and answered (R157, R159). -/
def State.mgmtRefused (s : State) (h : Header) (status : Status) : State :=
  { s with target := { s.target with lastError := some status } }.withMgmt h (.plain status)

/-- The state in which the entry with this tag has been answered: it is ANSWERED with its response, its port, drive
operation, context and data cleared, and the response has joined the queue (R41, R52, R58). -/
def State.withResponse (s : State) (tag : Nat) (r : Response) : State :=
  { s with
    table := s.table.map (fun e => if e.tag = tag then
      { e with state := .answered, forward := none, ctx := none, data := [], response := some r } else e)
    channel := { s.channel with responses := s.channel.responses ++ [.entry tag], tx := s.channel.tx.busy } }

/-! ## Commands and runs the statements speak of -/

/-- A request frame to a slot, of this length. -/
def memberFrame (op : MemberOp) (h : Header) (len : Nat) (data : List Sector) : Instr :=
  match op with
  | .read => .read h len
  | .write => .write h len data
  | .flush => .flush h len

/-- A request frame to a slot, of the length its operation calls for (R174): READ, WRITE with its data, FLUSH. -/
def memberRequest (op : MemberOp) (h : Header) (data : List Sector) : Instr := memberFrame op h (op.frameLength h) data

/-- The frame a command is, where it is one. -/
def frameOf : Instr → Option Frame
  | .read h len => some (.member .read h len [])
  | .write h len data => some (.member .write h len data)
  | .flush h len => some (.member .flush h len [])
  | .unknownOperationFrame tag _ _ => some (.unknownOperation tag)
  | .frameTooShort first => some (.tooShort (first.getD 0))
  | .unknownCommand h record => some (.manage h record)
  | .identify h ps => some (.manage h (0x01 :: ps))
  | .readStatus h ps => some (.manage h (0x02 :: ps))
  | .loadMap h ps => some (.manage h (0x03 :: ps))
  | .commitMap h ps => some (.manage h (0x04 :: ps))
  | .readMap h ps => some (.manage h (0x05 :: ps))
  | .setPacing h ps => some (.manage h (0x06 :: ps))
  | .readPacing h ps => some (.manage h (0x07 :: ps))
  | .setPolicy h ps => some (.manage h (0x08 :: ps))
  | .startRebuild h ps => some (.manage h (0x09 :: ps))
  | .stopRebuild h ps => some (.manage h (0x0A :: ps))
  | .abandonRebuild h ps => some (.manage h (0x0B :: ps))
  | .failMember h ps => some (.manage h (0x0C :: ps))
  | .restorePort h ps => some (.manage h (0x0D :: ps))
  | .clearHealth h ps => some (.manage h (0x0E :: ps))
  | .loadMilestones h ps => some (.manage h (0x0F :: ps))
  | .readMilestones h ps => some (.manage h (0x10 :: ps))
  | .takeLost h ps => some (.manage h (0x11 :: ps))
  | .setNotices h ps => some (.manage h (0x12 :: ps))
  | .clearSticky h ps => some (.manage h (0x13 :: ps))
  | .resetBridge h ps => some (.manage h (0x14 :: ps))
  | .mapInstallation | .bridgeReset | .powerOnReset | .channelReset | .upstreamLinkDown | .upstreamLinkUp
  | .driveLinkUp _ | .driveLinkDown _ | .driveCompletion _ _ _ | .driveTimeout _ _ | .settleTimerExpiry | .tick
  | .periodEnd | .noticeGapElapsed | .responseFrameSent | .noticeFrameSent | .lockGranted _ => none

/-- The READs of a context admitted to these ports, one after another (R82). -/
def State.peerReads (s : State) (c : CtxId) (op : DriveOp) (ports : List PortId) : State :=
  ports.foldl (fun t p => (t.enlist p op).countContext c) s

/-- The WRITE data an entry keeps (R40). -/
def MemberOp.kept (op : MemberOp) (data : List Sector) : List Sector := if op = .write then data else []

/-- The entry of a member request once its stripe and offset are recorded (R8, R40). -/
def placedEntry (op : MemberOp) (h : Header) (data : List Sector) (place : Place) : InFlight :=
  { newEntry op.reqOp h (op.kept data) with place := some place }

/-- The drive operation of a forwarded member request (R51). -/
def forwardedOp (op : MemberOp) (h : Header) (data : List Sector) : DriveOp :=
  match op with
  | .read => { kind := .read, addr := h.addr.toNat, count := h.count.toNat, orig := .tag h.tag.toNat, fgWrite := false
               payload := .none }
  | .write => { kind := .write, addr := h.addr.toNat, count := h.count.toNat, orig := .tag h.tag.toNat, fgWrite := true
                payload := .sectors data }
  | .flush => { kind := .flush, addr := h.addr.toNat, count := h.count.toNat, orig := .tag h.tag.toNat, fgWrite := false
                payload := .none }

/-- A member request that passes its slot, the commit drain and the geometry checks (R7, R45, R9), its member on port
`q`. -/
structure State.Maps (s : State) (h : Header) (q : PortId) (place : Place) : Prop where
  slot : h.slot ≠ 15
  member : h.slot.toNat < s.width
  noCommit : s.committing = false
  geometry : s.geometry h.addr.toNat h.count.toNat = .ok place
  port : s.portOf h.slot.toNat = some q

/-- What one READ outcome does to the lanes of a context (R83, R84, R85). -/
def Outcome.onLanes (lanes : List Lane) : Outcome → List Lane
  | .good data => lanesGood lanes data
  | .unreadable data masks => lanesUnreadable lanes data masks
  | .fault | .missing => lanes.map Lane.addMissing

/-- A bridge at rest in which the operation of this identity is outstanding on port p, no operation waits in the port's
deferred queue, and no commit waits for the in-flight table. -/
structure State.Outstanding (s : State) (p : PortId) (id : Nat) (e : ListEntry) : Prop extends s.Rests where
  entry : (s.port p).outstanding? id = some e
  deferred : (s.port p).deferred = []
  noCommit : s.committing = false

/-- Such a bridge, the operation a forwarded request's, and no DRAINING lock over its block address. -/
structure State.Carries (s : State) (p : PortId) (id : Nat) (e : ListEntry) (x : InFlight) : Prop
    extends s.Outstanding p id e where
  orig : e.op.orig = .tag x.tag
  request : s.entry? x.tag = some x
  issued : x.state = .issued
  drains : ∀ l ∈ s.slt.locks, l.drains e.op.addr = false

/-- Such a bridge, the operation one of the present taking of context c. -/
structure State.ReadsFor (s : State) (p : PortId) (id : Nat) (e : ListEntry) (c : CtxId) : Prop
    extends s.Outstanding p id e where
  orig : e.op.orig = .ctx c (s.ctx c).serial
  notForeground : e.op.fgWrite = false

/-- Port p once the entry of this identity has left it with the error count at `errors`, and the oldest waiting entry has
taken its place at the drive (R20, R22). -/
def State.left (s : State) (p : PortId) (id : Nat) (errors : Nat) : State :=
  (s.setPort p { (s.port p).without id with errors }).issue p

/-- Context c once its lock is GRANTED with `base` the lock's first block: in READING, its peer READs admitted to every
port of its mask (R66, R82). -/
def State.reading (s : State) (c : CtxId) (base : Nat) : State :=
  let x := s.ctx c
  let read : DriveOp :=
    { kind := .read, addr := base + x.first, count := x.count, orig := .ctx c x.serial, fgWrite := false
      payload := .none }
  let t : State := { s with slt := { s.slt with
    locks := s.slt.locks.map (fun l => if l.ctx = c then { l with granted := true, drain := 0 } else l) } }
  (t.setCtx c { x with state := .reading, outstanding := x.mask }).peerReads c read x.mask

/-- Every port of a context's mask admits an operation at once, and stands in it once. -/
def State.maskOpen (s : State) (c : CtxId) : Prop :=
  (s.ctx c).mask.Nodup ∧ ∀ q ∈ (s.ctx c).mask, (s.port q).health = .online ∧ (s.port q).hasRoom = true

/-- The engine and the lock table once context c, with these cause flags, has ended normally: the flags ORed into the
sticky causes, the context FREE, its lock released (R69, R94). -/
def State.ended (s : State) (c : CtxId) (flags : Causes) : State :=
  { s with
    engine := { s.engine with ctxs := s.engine.ctxs.set c (.blank (s.ctx c).serial), sticky := s.engine.sticky.or flags }
    slt := { s.slt with locks := s.slt.locks.filter (fun l => l.ctx ≠ c) } }

/-- Nothing waits for context c to end: no held request names its lock and no request waits for a context. -/
def State.nobodyWaits (s : State) (c : CtxId) : Prop := (∀ h ∈ s.slt.held, h.lock ≠ c) ∧ s.engine.waitList = []

/-- The tag of the request an operation was forwarded for, where it still has one (R17, R27). -/
def DriveOp.tag? (op : DriveOp) : Option Nat :=
  match op.orig with
  | .tag t => some t
  | .ctx _ _ | .orphan => none

/-- The answer an ISSUED request gets when its drive operation comes back with MISSING from a port of this health, or when
its context ends early there, where it is answered at once (R53, R56, R85): TIMEOUT where the port is not FAILED, and else
by its new route, GOOD for ABSORBED and DATA_LOST for LOST. The locks of the contexts in `gone` are no hindrance. -/
inductive State.MissingAnswer (s : State) (health : Health) (gone : List CtxId) (y : InFlight) : Status → Prop where
  | timeout : health ≠ .failed → MissingAnswer s health gone y .timeout
  | absorbed (place : Place) (q : PortId) : health = .failed → y.place = some place → s.portOf y.slot = some q →
      (∀ l ∈ s.slt.locks, l.ctx ∈ gone ∨ l.overlaps (s.firstBlock place.stripe) (s.lastBlock place.stripe) = false) →
      s.routeOf y.slot q y.op place.stripe = .absorbed → MissingAnswer s health gone y .good
  | lost (place : Place) (q : PortId) : health = .failed → y.place = some place → s.portOf y.slot = some q →
      (∀ l ∈ s.slt.locks, l.ctx ∈ gone ∨ l.overlaps (s.firstBlock place.stripe) (s.lastBlock place.stripe) = false) →
      s.routeOf y.slot q y.op place.stripe = .lost → MissingAnswer s health gone y .dataLost

/-- The state in which these requests have been answered, one after another. -/
def State.withResponses (s : State) (status : Nat → Status) (tags : List Nat) : State :=
  tags.foldl (fun t tag => t.withResponse tag (.plain (status tag))) s

/-- Context c once it has ended early (R85): its operations orphans or gone from the deferred queues, itself FREE without a
lock. -/
def State.endedEarly (s : State) (c : CtxId) : State :=
  { s.mapPorts (·.orphanCtxs [c]) with
    engine := { s.engine with ctxs := s.engine.ctxs.set c (.blank (s.ctx c).serial) }
    slt := { s.slt with locks := s.slt.locks.filter (fun l => l.ctx ≠ c) } }

/-- The DEGRADED or FILL context whose operation is deferred, and its request: in READING, and nobody waits for it. -/
structure State.DefersFor (s : State) (op : DriveOp) (c : CtxId) (y : InFlight) : Prop where
  orig : op.orig = .ctx c (s.ctx c).serial
  reading : (s.ctx c).state = .reading
  kind : (s.ctx c).kind ≠ .sweep
  origin : (s.ctx c).origin = .tag y.tag
  request : s.entry? y.tag = some y
  issued : y.state = .issued
  nobody : s.nobodyWaits c

/-- Several commands one after another, stopping at the first that does not answer a next state. -/
def execAll : List Instr → State → Result
  | [], s => .next s
  | c :: cs, s =>
    match exec c s with
    | .next t => execAll cs t
    | r => r

/-! ## What every step keeps -/

/-- R101: at most one port carries the bound mark, it is the job's spare and has role SPARE, and it carries the mark
exactly while the job is bound; a bound job has a target and a spare (R99). -/
structure State.MarkInv (s : State) : Prop where
  mark : ∀ p, (s.port p).bound = true ↔ s.job.state.bound = true ∧ s.job.spare = some p
  role : ∀ p, (s.port p).bound = true → (s.port p).role = .spare
  job : s.job.state.bound = true → s.job.target.isSome = true ∧ s.job.spare.isSome = true

/-- The job states in which the sweep window may hold entries (R102, R108). -/
def JobState.mayHoldWindow : JobState → Bool
  | .active | .stopping | .paused => true
  | .idle | .armed | .stopped | .halted | .done => false

/-- R109: W is at most N and N at most StripeCount; every window stripe lies below N (R107), and the window is empty in
every state from which a start is accepted (R102). -/
structure State.CursorInv (s : State) : Prop where
  watermark : s.job.w ≤ s.job.n
  cursor : s.job.n ≤ s.stripeCount
  window : ∀ e ∈ s.job.window, e.stripe < s.job.n
  empty : s.job.state.mayHoldWindow = false → s.job.window = []

/-- R1: every port's role copy is its role in the committed map. -/
def State.RoleInv (s : State) : Prop := ∀ p, (s.port p).role = s.target.committed.roles.get p

/-- The bonds of the sweep (R105, R107, R108, R137): the window holds at most SweepDepth stripes of those a policy may
allow, ascending; each SWEEP context at work for a window entry works on its stripe, no two for the same, and every
IN_FLIGHT entry has one; the reservations are the IN_FLIGHT entries, and with them the lost block list holds at most 128. -/
structure State.SweepInv (s : State) : Prop where
  depth : s.target.policy.sweepDepth ≤ 8
  length : s.job.window.length ≤ 8
  ascending : s.job.window.Pairwise (fun a b => a.stripe < b.stripe)
  worker : ∀ c t, (s.ctx c).origin = .window t → (s.ctx c).state ≠ .free ∧ (s.ctx c).kind = .sweep ∧
    (s.ctx c).stripe = t ∧ ∃ e ∈ s.job.window, e.stripe = t ∧ e.done = false
  single : ∀ c d t, (s.ctx c).origin = .window t → (s.ctx d).origin = .window t → c = d
  inFlight : ∀ e ∈ s.job.window, e.done = false → ∃ c, (s.ctx c).origin = .window e.stripe
  reservations : s.lost.reservations = s.job.window.countP (fun e => !e.done)
  lost : s.lost.entries.length + s.lost.reservations ≤ Config.lostBound

/-- The bounds of the queues and counts: in-flight table (R40), refusal list (R42), response queue (R58), context wait
list (R79), held queue (R68), ahead set (R110), notice queue (R150), milestone table (R144), waiting list (R156),
foreground count (R128). -/
structure State.QueueInv (s : State) : Prop where
  table : s.table.length ≤ 64
  refusals : s.channel.refusals ≤ Config.refusalBound
  responses : s.channel.responses.length ≤ 68
  waitList : s.engine.waitList.length ≤ 64
  held : s.slt.held.length ≤ Config.heldBound
  ahead : s.job.ahead.length ≤ Config.aheadBound
  notices : s.notices.queue.length ≤ Config.noticeBound
  milestones : s.notices.milestones.length ≤ Config.milestoneBound
  waiting : s.target.waiting.length ≤ Config.waitingBound
  fg : s.pacing.fg ≤ Config.fgBound

/-- The tag of an in-flight entry whose response an item of the response queue is. -/
def QueuedResponse.entryTag : QueuedResponse → Option Nat
  | .entry tag => some tag
  | .refusal _ _ => none

/-- The bonds of the in-flight table (R40, R41): tags of 0 to 63, no two the same; each request of the held queue (R68), of
the context wait list (R79) and of the response queue (R58) stands there once, its entry in the table and in HELD, WAITING
or ANSWERED. -/
structure State.TableInv (s : State) : Prop where
  tags : (s.table.map (·.tag)).Nodup
  range : ∀ e ∈ s.table, e.tag ≤ Config.tagBound
  held : (s.slt.held.map (·.tag)).Nodup ∧ ∀ h ∈ s.slt.held, ∃ e ∈ s.table, e.tag = h.tag ∧ e.state = .held
  waiting : s.engine.waitList.Nodup ∧ ∀ tag ∈ s.engine.waitList, ∃ e ∈ s.table, e.tag = tag ∧ e.state = .waiting
  answered : (s.channel.responses.filterMap (·.entryTag)).Nodup ∧
    ∀ tag ∈ s.channel.responses.filterMap (·.entryTag), ∃ e ∈ s.table, e.tag = tag ∧ e.state = .answered

/-- The context that made an operation, where one did. -/
def DriveOp.maker (op : DriveOp) : Option CtxId :=
  match op.orig with
  | .ctx c _ => some c
  | .tag _ | .orphan => none

/-- The bounds of a port: its list and the entries outstanding (R17, R18, R20), its error count (R25), its deferred queue
of at most one operation a context (R19). -/
structure Port.Bounded (x : Port) : Prop where
  list : x.list.length ≤ Config.listBound
  outstanding : x.outstanding ≤ Config.outstandingBound
  errors : x.errors ≤ Config.errorBound
  deferred : x.deferred.length ≤ 8
  makers : (x.deferred.map (·.maker)).Nodup ∧ ∀ op ∈ x.deferred, op.maker.isSome = true

/-- Every port keeps its bounds. -/
def State.PortInv (s : State) : Prop := ∀ p, (s.port p).Bounded

/-- The bonds of the lock table (R62, R63, R66): at most 8 entries, each of a context that is not FREE, no two of one
context, no two over a common block; over a GRANTED entry no foreground write stands in a port's list, and a DRAINING one
counts those that do, at least one. What keeps it so: no foreground write is deferred (R19), an open request's stripe
holds its first block (R8), and a context that owes its lock request is not FREE and has no entry (R63). -/
structure State.LockInv (s : State) : Prop where
  length : s.slt.locks.length ≤ 8
  owner : ∀ l ∈ s.slt.locks, (s.ctx l.ctx).state ≠ .free
  apart : s.slt.locks.Pairwise (fun a b => a.ctx ≠ b.ctx ∧ ¬ (a.first ≤ b.last ∧ b.first ≤ a.last))
  granted : ∀ l ∈ s.slt.locks, l.granted = true → l.drain = 0 ∧ s.foregroundWrites l.first l.last = 0
  draining : ∀ l ∈ s.slt.locks, l.granted = false → 1 ≤ l.drain ∧ l.drain = s.foregroundWrites l.first l.last
  deferred : ∀ p, ∀ op ∈ (s.port p).deferred, op.fgWrite = false
  place : ∀ e ∈ s.table, e.openMember = true → ∀ x, e.place = some x →
    s.firstBlock x.stripe ≤ e.addr ∧ e.addr ≤ s.lastBlock x.stripe
  owed : ∀ c, s.engine.owed = some c → (s.ctx c).state ≠ .free ∧ ∀ l ∈ s.slt.locks, l.ctx ≠ c

end Sys2Proof.Machine
end

