-- ==== Sys2Proof/Certificates/Slice0/Obligations.lean ====
section
/-! DEFINITION. The statements about the bridge: one proposition a name, each with the rule or section it formalises. -/
section Statements

open Sys2Proof Sys2Proof.Machine

/-! ## The step -/

/-- A step with a command at the front of the queue is that command's effect on the state with the queue's rest. -/
def Obligations.StepRunsFrontCommand : Prop :=
  ∀ (c : Instr) (rest : List Instr) (s : State),
    step { s with pending := c :: rest } = exec c { s with pending := rest }

/-- A step takes exactly one command out of the queue and puts none in; with an empty queue it changes nothing (the
model's choice: log 5). -/
def Obligations.StepTakesOneCommand : Prop :=
  (∀ s t : State, step s = .next t → t.pending = s.pending.tail) ∧
  (∀ s : State, s.pending = [] → step s = .next s)

/-! ## Frames as bytes (R173, R174, R177) -/

/-- The bytes of a request frame of the right length are read back as the command they were written from, header,
record and every sector of a WRITE. -/
def Obligations.DecodeOfEncode : Prop :=
  ∀ (i : Instr) (bs : List Byte), i.wellFormed = true → i.lengthFits = true → encodeFrame i = some bs →
    decodeFrame bs = i

/-- A request frame of the right length is the frame that its command is written as: no bit of it is dropped. -/
def Obligations.EncodeOfDecode : Prop :=
  ∀ bs : List Byte, 7 ≤ bs.length → knownOperation (operationOf bs) = true → (decodeFrame bs).lengthFits = true →
    encodeFrame (decodeFrame bs) = some bs

/-- Every sequence of bytes is read as a well-formed command that is a request frame; one of fewer than 2 bytes is too
short, and one whose operation code is none of the four is an unknown operation. -/
def Obligations.DecodedFramesWellFormed : Prop :=
  ∀ bs : List Byte,
    (decodeFrame bs).wellFormed = true ∧ (frameOf (decodeFrame bs)).isSome = true ∧
    (bs.length < 2 → decodeFrame bs = .frameTooShort bs.head?) ∧
    (2 ≤ bs.length → knownOperation (operationOf bs) = false →
      decodeFrame bs = .unknownOperationFrame (frameByte bs 0) (operationOf bs) bs.length)

/-- Frames written out from the layout of R174 and the codes of R177: the example WRITE of section 11.1 with a payload
of zeros, a READ, a FLUSH, an IDENTIFY, a TAKE_LOST of 2 and a START_REBUILD of member 4 on port 8. -/
def Obligations.FrameExamples : Prop :=
  decodeFrame ([0x15, 0x23, 0x02, 0xA8, 0x3E, 0x00, 0x00] ++ List.replicate 8192 0) =
    .write { tag := 0x15, slot := 3, count := 2, addr := 0x3EA8 } 8199 (List.replicate 16 0) ∧
  decodeFrame [0x07, 0x15, 0x04, 0x78, 0x56, 0x34, 0x12] =
    .read { tag := 7, slot := 5, count := 4, addr := 0x12345678 } 7 ∧
  decodeFrame [0x3F, 0x30, 0x01, 0x00, 0x00, 0x00, 0x80] =
    .flush { tag := 63, slot := 0, count := 1, addr := 0x80000000 } 7 ∧
  decodeFrame [0x00, 0x4F, 0x00, 0x00, 0x00, 0x00, 0x00, 0x01] =
    .identify { tag := 0, slot := 15, count := 0, addr := 0 } [] ∧
  decodeFrame [0x01, 0x4F, 0x00, 0x00, 0x00, 0x00, 0x00, 0x11, 0x02] =
    .takeLost { tag := 1, slot := 15, count := 0, addr := 0 } [2] ∧
  decodeFrame [0x02, 0x4F, 0x00, 0x00, 0x00, 0x00, 0x00, 0x09, 0x04, 0x08] =
    .startRebuild { tag := 2, slot := 15, count := 0, addr := 0 } [4, 8]

/-! ## The channel port (chapter 3, sections 3.1 and 3.2) -/

/-- R60: while the upstream link is down no frame arrives, and the frames the link holds stay there whatever command comes
but the link's return and the resets that empty it. R42: while the refusal list holds 4 responses the port takes no frame,
and the link holds the next. The first and the last are of every command that is a frame. Where the held frames stand, that
a frame sent while the link is down is lost, and that a bridge reset keeps the held ones, is the model's reading (log 11
and log 12). -/
def Obligations.FrameAtTheLink : Prop :=
  (∀ (c : Instr) (f : Frame) (s : State), frameOf c = some f →
    (s.channel.up = false → exec c s = .next s) ∧
    (s.Quiet → Config.refusalBound ≤ s.channel.refusals →
      exec c s = .next { s with channel := { s.channel with linkFrames := [f] } })) ∧
  (∀ (c : Instr) (s t : State), s.channel.up = false → c ≠ .upstreamLinkUp → c ≠ .powerOnReset → c ≠ .channelReset →
    exec c s = .next t → t.channel.up = false ∧ t.channel.linkFrames = s.channel.linkFrames)

/-- R42 and R174: a frame of a wrong form is refused into the refusal list and nothing else changes: UNKNOWN for an
operation code that is none of the four, whatever the length; FORMAT for a frame too short to have one, a tag above 63,
a length that does not match the operation, and a MANAGE without a command record. A MANAGE without a command record
is one of 2 to 7 bytes (log 25). -/
def Obligations.MalformedFrameRefused : Prop :=
  ∀ s : State, s.Rests → s.channel.refusals < Config.refusalBound →
    (∀ tag op len, exec (.unknownOperationFrame tag op len) s = .next (s.withRefusal tag .unknown)) ∧
    (∀ first, exec (.frameTooShort first) s = .next (s.withRefusal (first.getD 0) .format)) ∧
    (∀ op h len data, Config.tagBound < h.tag.toNat ∨ len ≠ op.frameLength h →
      exec (memberFrame op h len data) s = .next (s.withRefusal h.tag .format)) ∧
    (∀ h record, Config.tagBound < h.tag.toNat ∨ record = [] →
      exec (commandOf h record) s = .next (s.withRefusal h.tag .format))

/-- R43: a well-formed request whose tag names an entry of the table, in any state, is refused TAG_IN_USE into the
refusal list; the entry and everything else are unchanged. -/
def Obligations.TagInUseRefused : Prop :=
  ∀ (s : State) (h : Header), s.Rests → s.channel.refusals < Config.refusalBound → h.tag.toNat ≤ Config.tagBound →
    (s.entry? h.tag.toNat).isSome = true →
    (∀ op data, exec (memberRequest op h data) s = .next (s.withRefusal h.tag .tagInUse)) ∧
    (∀ record, record ≠ [] → exec (commandOf h record) s = .next (s.withRefusal h.tag .tagInUse))

/-! ## Arrival of a member request (chapter 1, section 1.6; chapter 3, section 3.2) -/

/-- R7, R44, R45, R9: a member request is refused by the first check that it fails: FORMAT at slot 15, NO_MEMBER at any
other slot at or above the width, BUSY while a commit is in its drain, RANGE for a count of 0 or blocks past the array's
end, SPAN for blocks past the end of a strip. The refusal is its entry's response, and an entry refused RANGE or SPAN has
its stripe and offset (R8, R40); nothing else changes. -/
def Obligations.MemberRequestChecks : Prop :=
  ∀ (s : State) (op : MemberOp) (h : Header) (data : List Sector), s.Takes h →
    let answered (status : Status) : Result := .next (s.withAnswered (newEntry op.reqOp h (op.kept data)) (.plain status))
    let result := exec (memberRequest op h data) s
    let a := h.addr.toNat
    let n := h.count.toNat
    let mapped (status : Status) : Result := .next (s.withAnswered
      (placedEntry op h data { stripe := a / s.stripBlocks, offset := a % s.stripBlocks }) (.plain status))
    (h.slot = 15 → result = answered .format) ∧
    (h.slot ≠ 15 → s.width ≤ h.slot.toNat → result = answered .noMember) ∧
    (h.slot ≠ 15 → h.slot.toNat < s.width → s.committing = true → result = answered .busy) ∧
    (h.slot ≠ 15 → h.slot.toNat < s.width → s.committing = false →
      (n = 0 ∨ s.stripeCount * s.stripBlocks < a + n → result = mapped .range) ∧
      (n ≠ 0 → a + n ≤ s.stripeCount * s.stripBlocks → s.stripBlocks < a % s.stripBlocks + n →
        result = mapped .span))

/-- R44 and R156: a MANAGE request to a member's slot is refused FORMAT, and to an absent one NO_MEMBER. One to slot 15
that finds a command in progress waits, in order, and finds BUSY where four wait already; that BUSY is latched as the
last management error (R159). -/
def Obligations.ManageRequestPlaced : Prop :=
  ∀ (s : State) (h : Header) (record : List Byte), s.Takes h → s.txRests → record ≠ [] →
    let answered (status : Status) (u : State) : Result := .next (u.withMgmt h (.plain status))
    let result := exec (commandOf h record) s
    (h.slot ≠ 15 → h.slot.toNat < s.width → result = answered .format s) ∧
    (h.slot ≠ 15 → s.width ≤ h.slot.toNat → result = answered .noMember s) ∧
    (h.slot = 15 → s.target.current.isSome = true →
      (s.target.waiting.length < Config.waitingBound →
        result = .next { s with
          table := s.table ++ [{ newEntry .manage h [] with state := .issued }]
          target := { s.target with waiting := s.target.waiting ++ [(h.tag.toNat, record)] } }) ∧
      (Config.waitingBound ≤ s.target.waiting.length →
        result = answered .busy { s with target := { s.target with lastError := some .busy } }))

/-! ## Routing (chapter 3, sections 3.3 to 3.5) -/

/-- R47, R48 and the masks of R49: the route of a member request by the health of its port, the array state, T, P, the
stripe and the watermark. The two rows of an array state are for a member whose port is not ONLINE. -/
def Obligations.RoutingTable : Prop :=
  ∀ (s : State) (m : Nat) (p : PortId) (op : ReqOp) (t : Nat), op ≠ .manage →
    let route := s.routeOf m p op t
    let masked (kind : CtxKind) (target : Option PortId) (tm : Option Nat) (ports : PortId → Prop) : Prop :=
      ∃ mask, route = .reconstruct kind mask target tm ∧ mask.Pairwise (· < ·) ∧ ∀ q, q ∈ mask ↔ ports q
    let isMember (out : List Nat) (q : PortId) : Prop := ∃ i, (s.port q).role = .member i ∧ i ∉ out
    let current : Prop := s.job.state.bound = true ∧
      (t < s.job.w ∨ (∃ e ∈ s.job.window, e.stripe = t ∧ e.done = true) ∨ t ∈ s.job.ahead)
    let fills : Prop := s.target.policy.aheadFill = true ∧ s.job.ahead.length < 64 ∧
      (s.job.state = .active ∨ s.job.state = .stopping ∨ s.job.state = .stopped ∨ s.job.state = .paused)
    ((s.port p).health = .online → route = .forward p) ∧
    ((s.port p).health ≠ .online →
      (s.arrayState = .degraded →
        (op = .read → masked .degraded none none (isMember [m])) ∧ (op ≠ .read → route = .absorbed)) ∧
      (s.arrayState = .broken → (op = .flush → route = .absorbed) ∧ (op ≠ .flush → route = .lost)) ∧
      (∀ q, s.arrayState = .rebuilding → s.job.target = some m → s.job.spare = some q →
        (current → route = .forward q) ∧
        (¬ current →
          (op = .read → fills → masked .fill (some q) (some m) (isMember [m])) ∧
          (op = .read → ¬ fills → masked .degraded none none (isMember [m])) ∧
          (op = .write → route = .absorbed) ∧ (op = .flush → route = .forward q))) ∧
      (∀ k q, s.arrayState = .fractured → s.job.target = some k → s.job.spare = some q →
        (t < s.job.w → m = k → route = .forward q) ∧
        (t < s.job.w → m ≠ k →
          (op = .read → masked .degraded none none (fun r => r = q ∨ isMember [k, m] r)) ∧
          (op ≠ .read → route = .absorbed)) ∧
        (s.job.w ≤ t → (op = .flush → route = .absorbed) ∧ (op ≠ .flush → route = .lost))))

/-- R51 and R57: a request routed to a port that is ONLINE is offered to it as one drive operation. With room in the list
and no deferred operation it is admitted and counted toward the foreground, its entry ISSUED with port and operation;
else it is answered BUSY with nothing queued and nothing counted. By R53 it is answered TIMEOUT where the port is neither
ONLINE nor FAILED. -/
def Obligations.RequestForwarded : Prop :=
  ∀ (s : State) (op : MemberOp) (h : Header) (data : List Sector) (q p : PortId) (place : Place),
    s.Takes h → s.txRests → s.Maps h q place → s.lockHolds q op.reqOp place.stripe = false →
    s.routeOf h.slot.toNat q op.reqOp place.stripe = .forward p →
    let e := placedEntry op h data place
    let d := forwardedOp op h data
    let result := exec (memberRequest op h data) s
    ((s.port p).health = .online → (s.port p).deferred = [] → (s.port p).list.length < Config.listBound →
      result = .next { (s.enlist p d).countForeground with
        table := s.table ++ [{ e with state := .issued, forward := some (p, d.kind), data := [] }] }) ∧
    ((s.port p).health = .online → ¬ ((s.port p).deferred = [] ∧ (s.port p).list.length < Config.listBound) →
      result = .next (s.withAnswered e (.plain .busy))) ∧
    ((s.port p).health = .absent → result = .next (s.withAnswered e (.plain .timeout)))

/-- R50: a request routed ABSORBED is answered GOOD and one routed LOST is answered DATA_LOST, at once: no drive operation
is queued, nothing is counted toward the foreground, a WRITE's data is discarded. -/
def Obligations.RequestAnsweredAtOnce : Prop :=
  ∀ (s : State) (op : MemberOp) (h : Header) (data : List Sector) (q : PortId) (place : Place),
    s.Takes h → s.Maps h q place → s.lockHolds q op.reqOp place.stripe = false →
    let answered (status : Status) : Result := .next (s.withAnswered (placedEntry op h data place) (.plain status))
    (s.routeOf h.slot.toNat q op.reqOp place.stripe = .absorbed →
      exec (memberRequest op h data) s = answered .good) ∧
    (s.routeOf h.slot.toNat q op.reqOp place.stripe = .lost →
      exec (memberRequest op h data) s = answered .dataLost)

/-- R67 and R68: at a locked stripe a WRITE is held whatever its port's health, a READ where the port is not ONLINE, and
a FLUSH never. A held request joins the end of the held queue naming, of the locks that overlap its stripe, the one whose
context has the lowest number, and keeps a WRITE's data; with 32 requests held it is answered BUSY. R64: a context that
finds its stripe locked when it requests its lock goes back to FREE with nothing ORed into the sticky causes, the arbiter
offers it, and then its request joins the held queue in the same way, or is answered BUSY; here for a lock request owed
from an earlier command, its turn come, with nobody waiting for a context and no sweep to launch. When its turn comes is
the model's schedule (log 10). -/
def Obligations.RequestHeld : Prop :=
  (∀ (s : State) (op : MemberOp) (h : Header) (data : List Sector) (q : PortId) (place : Place),
    s.Takes h → s.txRests → s.Maps h q place →
    let blocks (c : CtxId) : Prop := ∃ l ∈ s.slt.locks, l.ctx = c ∧
      l.first ≤ s.lastBlock place.stripe ∧ s.firstBlock place.stripe ≤ l.last
    let result := exec (memberRequest op h data) s
    (s.lockHolds q op.reqOp place.stripe = true ↔
      (∃ c, blocks c) ∧ (op = .write ∨ op = .read ∧ (s.port q).health ≠ .online)) ∧
    (s.lockHolds q op.reqOp place.stripe = true →
      (s.slt.held.length < Config.heldBound → ∃ c, blocks c ∧ (∀ k, k < c → ¬ blocks k) ∧
        result = .next { s with
          table := s.table ++ [{ placedEntry op h data place with state := .held }]
          slt := { s.slt with held := s.slt.held ++ [{ tag := h.tag.toNat, lock := c }] } }) ∧
      (Config.heldBound ≤ s.slt.held.length →
        result = .next (s.withAnswered (placedEntry op h data place) (.plain .busy))))) ∧
  (∀ (s : State) (c : CtxId) (r : InFlight) (place : Place),
    let s0 : State := { s with engine := { s.engine with owed := none, late := s.engine.late.tail } }
    s0.Rests → s.txRests → s.engine.owed = some c → s.engine.late.head? ≠ some true → (s.ctx c).state = .locking → (s.ctx c).kind ≠ .sweep →
    (s.ctx c).stripe = place.stripe → (s.ctx c).origin = .tag r.tag → s.entry? r.tag = some r → r.state = .issued →
    r.place = some place → r.forward = none → s.committing = false → s.engine.waitList = [] → s.job.state ≠ .active →
    let blocks (k : CtxId) : Prop := ∃ l ∈ s.slt.locks, l.ctx = k ∧
      l.first ≤ s.lastBlock place.stripe ∧ s.firstBlock place.stripe ≤ l.last
    (∃ k, blocks k) →
    let freed : State := { s0 with engine := { s0.engine with ctxs := s.engine.ctxs.set c (.blank (s.ctx c).serial) } }
    s0.lockRequest c =
      ([.arbiter, .rejoin r.tag, .examine], freed.setEntry r.tag (fun e => if e.state = .issued then
        { e with ctx := none } else e)) ∧
    (s.slt.held.length < Config.heldBound → ∃ k, blocks k ∧ (∀ j, j < k → ¬ blocks j) ∧
      exec .upstreamLinkUp s = .next (({ freed with slt := { s.slt with
        held := s.slt.held ++ [{ tag := r.tag, lock := k }] } } : State).setEntry r.tag (fun e =>
          { e with state := .held, forward := none, ctx := none }))) ∧
    (Config.heldBound ≤ s.slt.held.length → exec .upstreamLinkUp s = .next (freed.withResponse r.tag (.plain .busy))))

/-- R49, R77 and R78: a READ routed DEGRADED or FILL while no context is available to foreground (six are in use by
DEGRADED and FILL, or none is FREE), or while others wait for one, goes to WAITING at the end of the context wait list. -/
def Obligations.ReadWaitsForContext : Prop :=
  ∀ (s : State) (op : MemberOp) (h : Header) (data : List Sector) (q : PortId) (place : Place) (kind : CtxKind)
    (mask : List PortId) (target : Option PortId) (tm : Option Nat),
    s.Takes h → s.txRests → s.Maps h q place → s.lockHolds q op.reqOp place.stripe = false →
    s.routeOf h.slot.toNat q op.reqOp place.stripe = .reconstruct kind mask target tm →
    (s.engine.waitList ≠ [] ∨ 6 ≤ s.foregroundInUse ∨ ∀ c, (s.ctx c).state ≠ .free) →
    exec (memberRequest op h data) s = .next { s with
      table := s.table ++ [{ placedEntry op h data place with state := .waiting }]
      engine := { s.engine with waitList := s.engine.waitList ++ [h.tag.toNat] } }

/-- R49, R63, R77 and R82: a READ routed DEGRADED or FILL takes the lowest-numbered FREE context, which requests its lock at
once or, where the schedule defers it, after the effects of a later command, with the same outcome: the next, or one after
it where the schedule defers it once more. With foreground writes to the stripe in port lists the lock is DRAINING with their number, and the context stays in LOCKING. With none it is
GRANTED: the context enters READING and the peer READs are admitted to the mask's ports, here for ports that are ONLINE and
have room. The schedule that says which is the model's own (log 10). -/
def Obligations.ReadTakesContext : Prop :=
  ∀ (s : State) (op : MemberOp) (h : Header) (data : List Sector) (q : PortId) (place : Place) (kind : CtxKind)
    (mask : List PortId) (target : Option PortId) (tm : Option Nat) (c : CtxId),
    s.Takes h → s.txRests → s.Maps h q place → s.lockHolds q op.reqOp place.stripe = false →
    s.routeOf h.slot.toNat q op.reqOp place.stripe = .reconstruct kind mask target tm →
    s.engine.waitList = [] → s.foregroundInUse < 6 → (s.ctx c).state = .free → (∀ k, k < c → (s.ctx k).state ≠ .free) →
    (∀ l ∈ s.slt.locks, l.ctx ≠ c) →
    let e : InFlight := { placedEntry op h data place with state := .issued, ctx := some c }
    let fresh := Context.taken ((s.ctx c).serial + 1) kind place.stripe (if kind = .fill then 0 else place.offset)
      (if kind = .fill then s.stripBlocks else h.count.toNat) mask target tm (.tag h.tag.toNat)
    let first := s.firstBlock place.stripe
    let n := s.foregroundWrites first (s.lastBlock place.stripe)
    let lock : Lock :=
      { ctx := c, stripe := place.stripe, first, last := s.lastBlock place.stripe, granted := n == 0, drain := n }
    let took (late : List Bool) : State := { s with table := s.table ++ [e], engine := { s.engine with late } }
    let locks (late : List Bool) (result : Result) : Prop :=
      let locked : State := { took late with slt := { s.slt with locks := s.slt.locks ++ [lock] } }
      (n ≠ 0 → result = .next (locked.setCtx c fresh)) ∧
      (n = 0 → (∀ p ∈ mask, (s.port p).health = .online ∧ (s.port p).hasRoom = true) →
        let read : DriveOp :=
          { kind := .read, addr := first + fresh.first, count := fresh.count, orig := .ctx c fresh.serial
            fgWrite := false, payload := .none }
        result = .next ((locked.setCtx c { fresh with state := .reading, outstanding := mask }).peerReads c read mask))
    let owing (late : List Bool) : State :=
      ({ took late with engine := { s.engine with late, owed := some c } } : State).setCtx c fresh
    let late := s.engine.late
    (late[0]? ≠ some true → locks late.tail (exec (memberRequest op h data) s)) ∧
    (late[0]? = some true →
      exec (memberRequest op h data) s = .next (owing late.tail) ∧
      (late[1]? ≠ some true → locks late.tail.tail (exec .upstreamLinkUp (owing late.tail))) ∧
      (late[1]? = some true → exec .upstreamLinkUp (owing late.tail) = .next (owing late.tail.tail)))

/-! ## Drive ports (chapter 2) -/

/-- R20: the issue rule on an ONLINE port keeps every entry, its operation and the order; an outstanding entry keeps its
identity and deadline; entries become outstanding from the oldest waiting one on until 32 are, none past one that still
waits; each gets an identity the port has not given before and a deadline one DriveTimeout (of 50 ms units) from now.
R30: a port that is not ONLINE issues nothing. The identities and the clock are the model's (log 17 and log 2). -/
def Obligations.IssueRule : Prop :=
  ∀ (s : State) (p : PortId),
    let x := s.port p
    let y := (s.issue p).port p
    (x.health ≠ .online → s.issue p = s) ∧
    (x.health = .online →
      s.issue p = s.setPort p y ∧ y = { x with list := y.list, nextId := y.nextId } ∧
      y.list.map (·.op) = x.list.map (·.op) ∧
      y.outstanding = max x.outstanding (min Config.outstandingBound x.list.length) ∧
      (∀ i (h : i < x.list.length) (k : i < y.list.length), (x.list[i]).issue.isSome = true →
        (y.list[i]).issue = (x.list[i]).issue) ∧
      (∀ i (h : i < x.list.length) (k : i < y.list.length), (x.list[i]).issue = none →
        ((y.list[i]).issue = none ∨ ∃ id, (y.list[i]).issue =
          some { id, deadline := s.now + s.target.policy.driveTimeout * 50 * 1000 } ∧ x.nextId ≤ id ∧ id < y.nextId)) ∧
      (∀ i j (h : i < j) (hj : j < x.list.length) (k : j < y.list.length), (x.list[i]).issue = none →
        (x.list[j]).issue = none → (y.list[j]).issue.isSome = true → ∃ a b, (y.list[i]).issue = some a ∧
          (y.list[j]).issue = some b ∧ a.id < b.id))

/-- R28: a link-up takes an ABSENT port to ONLINE and leaves ONLINE and FAILED; the error count, the list and everything
else are unchanged and no notice is formed. A port that becomes ONLINE is at once available to admission, a SPARE port
also to a start. -/
def Obligations.DriveLinkUp : Prop :=
  ∀ (s : State) (p : PortId), s.Quiet →
    let health := match (s.port p).health with
      | .absent => Health.online
      | .online => .online
      | .failed => .failed
    let t := s.setPort p { s.port p with link := true, health }
    exec (.driveLinkUp p) s = .next t ∧
    ((s.port p).health = .absent →
      (∀ op, (t.offerForeground p op).1 ≠ .missing) ∧ ((s.port p).role = .spare → t.fitSpare.isSome = true))

/-- R29 and R32: what a link-down does. On every state: afterwards the port has no entry, no deferred operation and no
link, and is not ONLINE. On a port with neither entries nor deferred operations: ONLINE as a MEMBER with the job unbound
and nothing to arm, or HALTED, goes FAILED with its notice of reason LINK; ONLINE with another role and no bound mark goes
ABSENT; FAILED and ABSENT stay. On a port with entries of forwarded requests and orphans and with the deferred READs of
DEGRADED and FILL contexts: each entry leaves with MISSING, the oldest first, and then each deferred operation, the oldest
first, which ends its context early (R85); an orphan's outcome is discarded, and the requests are answered in that order,
TIMEOUT at a port that is ABSENT (R53) and by their new route at one that is FAILED, here to an answer at once. Here with
no DRAINING lock over the entries' writes. -/
def Obligations.DriveLinkDown : Prop :=
  (∀ (s t : State) (p : PortId), exec (.driveLinkDown p) s = .next t →
    (t.port p).list = [] ∧ (t.port p).deferred = [] ∧ (t.port p).link = false ∧ (t.port p).health ≠ .online) ∧
  (∀ (s : State) (p : PortId), s.Quiet → (s.port p).list = [] → (s.port p).deferred = [] → (s.port p).bound = false →
    let down (health : Health) : State := s.setPort p { s.port p with link := false, health }
    let result := exec (.driveLinkDown p) s
    (∀ m, (s.port p).health = .online → (s.port p).role = .member m →
      ((s.job.state = .idle ∨ s.job.state = .done) ∧ s.target.policy.autoStart = false ∨ s.job.state = .halted) →
      result = .next ((down .failed).notify (.memberFailed p m .link))) ∧
    ((s.port p).health = .online → (∀ m, (s.port p).role ≠ .member m) → result = .next (down .absent)) ∧
    ((s.port p).health ≠ .online → result = .next (down (s.port p).health))) ∧
  (∀ (s : State) (p : PortId) (status : Nat → Status), s.Quiet → s.committing = false → (s.port p).bound = false →
    s.job.state ≠ .active →
    let x := s.port p
    let tags := x.list.filterMap (·.op.tag?)
    let ctxs := x.deferred.filterMap (·.maker)
    let down (health : Health) : State := s.setPort p { x with link := false, health, list := [], deferred := [] }
    let left (u : State) (result : Result) : Prop :=
      tags.Nodup → ctxs.Nodup → (∀ e ∈ x.list, e.op.fgWrite = true → ∀ l ∈ s.slt.locks, l.drains e.op.addr = false) →
      (∀ e ∈ x.list, e.op.orig = .orphan ∨ ∃ y, e.op.orig = .tag y.tag ∧ s.entry? y.tag = some y ∧ y.state = .issued ∧
        u.MissingAnswer (u.port p).health [] y (status y.tag)) →
      (∀ op ∈ x.deferred, (u.port p).health = .failed ∧ ∃ c y, s.DefersFor op c y ∧ y.tag ∉ tags ∧
        u.MissingAnswer .failed [c] y (status y.tag)) →
      (∀ c d, c ∈ ctxs → d ∈ ctxs → (s.ctx c).origin = (s.ctx d).origin → c = d) →
      result = .next (ctxs.foldl (fun t c =>
        (t.endedEarly c).withResponses status (s.ctx c).request.toList) (u.withResponses status tags))
    let result := exec (.driveLinkDown p) s
    (∀ m, x.health = .online → x.role = .member m →
      ((s.job.state = .idle ∨ s.job.state = .done) ∧ s.target.policy.autoStart = false ∨ s.job.state = .halted) →
      left ((down .failed).notify (.memberFailed p m .link)) result) ∧
    (x.health = .online → (∀ m, x.role ≠ .member m) → left (down .absent) result) ∧
    (x.health ≠ .online → left (down x.health) result))

/-- R52: a forwarded operation that completes GOOD answers its entry GOOD, a READ with its data of count × 8 sectors in
block order, a WRITE or FLUSH with no payload; the entry is ANSWERED, its port and drive operation cleared. -/
def Obligations.ForwardedGood : Prop :=
  ∀ (s : State) (p : PortId) (id : Nat) (e : ListEntry) (x : InFlight) (data : List Sector), s.Carries p id e x →
    let t := s.left p id (s.port p).errors
    (x.op = .read → e.op.kind = .read → data.length = 8 * e.op.count →
      exec (.driveCompletion p id (.good data)) s =
        .next (t.withResponse x.tag { status := .good, payload := .sectors data })) ∧
    ((x.op = .write ∧ e.op.kind = .write) ∨ (x.op = .flush ∧ e.op.kind = .flush) →
      exec (.driveCompletion p id (.good data)) s = .next (t.withResponse x.tag { status := .good, payload := .none }))

/-- R54 and R22: a forwarded READ that completes UNREADABLE is answered MEDIA, with the offset within its strip of the
first block whose mask names a sector, and that mask, and with no data; the error count stands. One whose masks name no
sector counts as GOOD. -/
def Obligations.ForwardedUnreadable : Prop :=
  ∀ (s : State) (p : PortId) (id : Nat) (e : ListEntry) (x : InFlight) (place : Place) (data : List Sector)
    (masks : List Byte), s.Carries p id e x → x.op = .read → e.op.kind = .read → x.place = some place →
    masks.length = e.op.count → data.length = 8 * e.op.count →
    let t := s.left p id (s.port p).errors
    let result := exec (.driveCompletion p id (.unreadable data masks)) s
    (∀ b mask, masks[b]? = some mask → mask ≠ 0 → (∀ a, a < b → masks[a]? = some 0) →
      result = .next (t.withResponse x.tag { status := .media, badOffset := place.offset + b, mask })) ∧
    ((∀ mask ∈ masks, mask = 0) → result = .next (t.withResponse x.tag { status := .good, payload := .sectors data }))

/-- R24, R25, R26 and R53: a FAULT, an UNREADABLE of an operation other than a READ, or the expiry of the deadline raises
the error count by 1 up to 15; where that does not fail the port (AutoFail off, the count below FailThreshold, or a port
that was not ONLINE), and the port is not FAILED, the request is answered TIMEOUT. That the expiry moves the clock to
the deadline is the model's choice (log 3), and so is that an UNREADABLE of an operation other than a READ counts as a
FAULT also where its masks name no sector (log 39). -/
def Obligations.ForwardedFaultOrTimeout : Prop :=
  ∀ (s : State) (p : PortId) (id : Nat) (e : ListEntry) (x : InFlight), s.Carries p id e x →
    (s.port p).health ≠ .failed →
    let n := min ((s.port p).errors + 1) 15
    (s.target.policy.autoFail = false ∨ n < s.target.policy.failThreshold ∨ (s.port p).health ≠ .online) →
    exec (.driveCompletion p id .fault) s = .next ((s.left p id n).withResponse x.tag (.plain .timeout)) ∧
    (∀ data masks, e.op.kind ≠ .read → exec (.driveCompletion p id (.unreadable data masks)) s =
      .next ((s.left p id n).withResponse x.tag (.plain .timeout))) ∧
    (∀ i, e.issue = some i → (s.advanceTo i.deadline).settleDue = false →
      exec (.driveTimeout p id) s =
        .next (((s.advanceTo i.deadline).left p id n).withResponse x.tag (.plain .timeout)))

/-- R24, R26, R32, R53 and R50 together: the timeout that takes a member's port to FAILED does so before its own outcome
is delivered, so that a forwarded WRITE is absorbed and answered GOOD, not TIMEOUT. Here with the array OPTIMAL, the job
unbound, nothing to arm and no other entry on the port. That the expiry moves the clock to the deadline is the model's
choice (log 3). -/
def Obligations.FailingTimeoutAbsorbsWrite : Prop :=
  ∀ (s : State) (p : PortId) (id : Nat) (e : ListEntry) (x : InFlight) (place : Place) (i : Issue) (m : Nat),
    s.Carries p id e x → (s.port p).list = [e] → e.issue = some i → (s.advanceTo i.deadline).settleDue = false →
    x.op = .write → e.op.kind = .write → x.slot = m → x.place = some place → s.portOf m = some p →
    (s.port p).health = .online → (s.port p).bound = false → s.failedMembers = [] →
    s.locked place.stripe = false → (s.job.state = .idle ∨ s.job.state = .done) → s.target.policy.autoStart = false →
    s.target.policy.autoFail = true → s.target.policy.failThreshold ≤ min ((s.port p).errors + 1) 15 →
    exec (.driveTimeout p id) s = .next ((((s.advanceTo i.deadline).setPort p { s.port p with
      list := [], health := .failed, errors := min ((s.port p).errors + 1) 15 }).notify
        (.memberFailed p m .errors)).withResponse x.tag (.plain .good))

/-- R22 and R27: a completion or an expiry that matches no outstanding entry changes nothing. An orphan's entry leaves
the list with its error count rules, and nothing is delivered. That an expiry which matches no entry changes nothing
is the model's choice (log 35). R19: after an entry has left the list of an ONLINE port, and the issue rule has acted, the
oldest deferred operation joins the end of the list, one alone, the rest keep their order, and the admission is counted
toward the foreground unless its context is a SWEEP; here the entry is an orphan's. -/
def Obligations.UnmatchedAndOrphan : Prop :=
  (∀ (s : State) (p : PortId) (id : Nat), (s.port p).outstanding? id = none →
    (∀ report, exec (.driveCompletion p id report) s = .next s) ∧ exec (.driveTimeout p id) s = .next s) ∧
  (∀ (s : State) (p : PortId) (id : Nat) (e : ListEntry), s.Outstanding p id e → s.txRests → e.op.orig = .orphan →
    (∀ l ∈ s.slt.locks, l.drains e.op.addr = false) →
    (∀ data, exec (.driveCompletion p id (.good data)) s = .next (s.left p id (s.port p).errors)) ∧
    (s.target.policy.autoFail = false →
      exec (.driveCompletion p id .fault) s = .next (s.left p id (min ((s.port p).errors + 1) 15)))) ∧
  (∀ (s : State) (p : PortId) (id : Nat) (e : ListEntry) (op : DriveOp) (rest : List DriveOp) (c : CtxId) (n : Nat)
    (data : List Sector), s.Quiet → (s.port p).outstanding? id = some e → e.op.orig = .orphan →
    (∀ l ∈ s.slt.locks, l.drains e.op.addr = false) → (s.port p).health = .online → (s.port p).list.length ≤ 72 →
    (s.port p).deferred = op :: rest → op.orig = .ctx c n →
    let left := s.left p id (s.port p).errors
    let joined := (left.setPort p { left.port p with deferred := rest }).enlist p op
    exec (.driveCompletion p id (.good data)) s = .next
      (if (s.ctx c).kind = .sweep then joined else { joined with pacing := { s.pacing with
        fg := min (s.pacing.fg + 1) 65535 } }))

/-! ## Stripe locks (chapter 4) -/

/-- R65, R66 and R82: a foreground write that leaves a list lowers the drain count of the DRAINING lock over its address
by 1; at 0 the lock is GRANTED, its context enters READING and offers its READs, all before the write's own outcome is
answered. The row LOCK_GRANTED is that grant for a DRAINING lock with a drain count of 0. That the row repeats a grant
which the steps themselves make at once is the model's reading (log 7), and that the READs cover the blocks of the lock's
range, whatever map has been installed since, its inference (log 33). -/
def Obligations.DrainedLockGranted : Prop :=
  (∀ (s : State) (p : PortId) (id : Nat) (e : ListEntry) (x : InFlight) (l : Lock) (data : List Sector),
    s.Outstanding p id e → e.op.orig = .tag x.tag → s.entry? x.tag = some x → x.state = .issued → x.op = .write →
    e.op.kind = .write → e.op.fgWrite = true → l ∈ s.slt.locks → l.granted = false → l.first ≤ e.op.addr →
    e.op.addr ≤ l.last → (∀ k ∈ s.slt.locks, k.drains e.op.addr = true ∨ k.ctx = l.ctx → k = l) →
    let gone := s.setPort p ((s.port p).without id)
    let result := exec (.driveCompletion p id (.good data)) s
    (1 < l.drain → result = .next ((({ gone with slt := { gone.slt with
      locks := gone.slt.locks.map (fun k => if k = l then { l with drain := l.drain - 1 } else k) } }).issue
        p).withResponse x.tag (.plain .good))) ∧
    (l.drain = 1 → s.maskOpen l.ctx →
      result = .next (((gone.reading l.ctx l.first).issue p).withResponse x.tag (.plain .good)))) ∧
  (∀ (s : State) (c : CtxId) (l : Lock), s.Quiet → l ∈ s.slt.locks → l.ctx = c → l.granted = false → l.drain = 0 →
    (∀ k ∈ s.slt.locks, k.ctx = c → k = l) → s.maskOpen c →
    exec (.lockGranted c) s = .next (s.reading c l.first))

/-! ## The reconstruction engine (chapter 5) -/

/-- R83: the outcomes of the ports' READs leave the same lanes in whatever order they arrive; R86: a lane's class is GOOD
only where every input was GOOD, and its output is then the exclusive-OR of the sectors, else 512 zero bytes. -/
def Obligations.LanesInAnyOrder : Prop :=
  (∀ (lanes : List Lane) (a b : List Outcome), a.Perm b → a.foldl Outcome.onLanes lanes = b.foldl Outcome.onLanes lanes) ∧
  (∀ (datas : List (List Sector)) (n i : Nat), i < n → datas ≠ [] → (∀ d ∈ datas, d.length = n) →
    let lanes := (datas.map Outcome.good).foldl Outcome.onLanes (List.replicate n Lane.empty)
    (lanes.map Lane.class)[i]? = some .good ∧
    (lanes.map Lane.output)[i]? = some ((datas.map (fun d => d.getD i 0)).foldl (· ^^^ ·) 0)) ∧
  (∀ (lanes : List Lane) (d : List Sector) (masks : List Byte) (i : Nat), i < lanes.length → lanes.length = d.length →
    d.length = 8 * masks.length →
    (lanesUnreadable lanes d masks)[i]? = (lanes[i]?).map (fun l =>
      if (masks.getD (i / 8) 0).getLsbD (i % 8) then { l with unreadable := true }
      else { l with acc := l.acc ^^^ d.getD i 0, good := true })) ∧
  (∀ l : Lane, (l.missing = true → l.class = .lostMissing ∧ l.output = 0) ∧
    (l.missing = false → l.unreadable = true → l.class = .lostUnreadable ∧ l.output = 0) ∧
    (l.missing = false → l.unreadable = false → l.class = .good ∧ l.output = l.acc))

/-- R83, R84 and R85, for a peer READ that is not the last of its context: GOOD data is XORed into every lane of the
strip; UNREADABLE data into the lanes its masks do not name; the port leaves the outstanding set. A FAULT or an expiry that
does not fail the port (AutoFail off, or the count below FailThreshold) gives every lane a MISSING input in a DEGRADED or
FILL context, and in a SWEEP context at its retry limit; a SWEEP context with retries left raises the port's retry count
and offers the same READ again. A FAULT from a FAILED port ends a DEGRADED or FILL context early: its operations are
orphans or gone, its flags are discarded, it is FREE without a lock, and its request is routed again, here to DATA_LOST.
That an expiry moves the clock to the deadline is the model's choice (log 3), and the range is the lock's (log 33). -/
def Obligations.PeerReadTaken : Prop :=
  ∀ (s : State) (p : PortId) (id : Nat) (e : ListEntry) (c : CtxId), s.ReadsFor p id e c → s.txRests →
    e.op.kind = .read → (s.ctx c).state = .reading → (s.ctx c).outstanding.erase p ≠ [] →
    let x := s.ctx c
    let n := min ((s.port p).errors + 1) 15
    let again : DriveOp := { kind := .read, addr := s.ctxBase c + x.first, count := x.count, orig := .ctx c x.serial
                             fgWrite := false, payload := .none }
    let missing (u : State) (result : Result) : Prop :=
      (x.kind ≠ .sweep ∨ s.target.policy.retryLimit ≤ x.retries.get p → result =
        .next ((u.left p id n).setCtx c
          { x with lanes := x.lanes.map (fun l => { l with missing := true }), outstanding := x.outstanding.erase p
                   sources := x.sources ++ [p] })) ∧
      (x.kind = .sweep → x.retries.get p < s.target.policy.retryLimit → (s.port p).hasRoom = true → result =
        .next ((((u.setPort p { (s.port p).without id with errors := n }).setCtx c
          { x with retries := x.retries.set p (x.retries.get p + 1), flags := { x.flags with retried := true } }).enlist
            p again).issue p))
    (∀ data, data.length = 8 * e.op.count → exec (.driveCompletion p id (.good data)) s =
      .next ((s.left p id (s.port p).errors).setCtx c
        { x with lanes := lanesGood x.lanes data, outstanding := x.outstanding.erase p })) ∧
    (∀ data masks, data.length = 8 * e.op.count → masks.length = e.op.count → (∃ m ∈ masks, m ≠ 0) →
      exec (.driveCompletion p id (.unreadable data masks)) s =
        .next ((s.left p id (s.port p).errors).setCtx c
          { x with lanes := lanesUnreadable x.lanes data masks, outstanding := x.outstanding.erase p
                   sources := x.sources ++ [p] })) ∧
    ((s.port p).health = .online → s.target.policy.autoFail = false ∨ n < s.target.policy.failThreshold →
      missing s (exec (.driveCompletion p id .fault) s) ∧
      (∀ i, e.issue = some i → (s.advanceTo i.deadline).settleDue = false → (s.advanceTo i.deadline).txRests →
        missing (s.advanceTo i.deadline) (exec (.driveTimeout p id) s))) ∧
    (∀ (r : InFlight) (place : Place) (q : PortId), (s.port p).health = .failed → x.kind ≠ .sweep →
      x.origin = .tag r.tag → s.entry? r.tag = some r → r.op = .read → r.state = .issued → r.place = some place →
      s.portOf r.slot = some q → s.routeOf r.slot q .read place.stripe = .lost →
      (∀ l ∈ s.slt.locks, l.ctx = c ∨ l.overlaps (s.firstBlock place.stripe) (s.lastBlock place.stripe) = false) →
      s.nobodyWaits c → s.job.state ≠ .active →
      let gone := (s.setPort p { (s.port p).without id with errors := n }).mapPorts (·.orphanCtxs [c])
      exec (.driveCompletion p id .fault) s = .next ({ gone with
        engine := { s.engine with ctxs := s.engine.ctxs.set c (.blank x.serial) }
        slt := { s.slt with locks := s.slt.locks.filter (fun l => l.ctx ≠ c) } }.withResponse r.tag (.plain .dataLost)))

/-- R55, R86, R91 and R92: the last READ of a DEGRADED context, or of a FILL context that is to write nothing (a lane of its
strip is lost, its target port has no bound mark, or T is not its target member), answers its request: GOOD with the
exclusive-OR of the requested blocks where no lane of them is lost, and otherwise MEDIA with the lowest block that holds a
lost lane and the mask of its lost lanes, without data; the context then ends. Here with nobody waiting for it and no sweep
to launch. R69, R70 and R56: at the end of a context a held WRITE that names its lock is routed again, here to a port that
admits it. R80: the freed context is offered to the oldest waiting request, a READ that is routed DEGRADED again and takes
it, its lock DRAINING. These two are of a context without a request (R98), in a state whose in-flight table keeps its
bonds. That the range is the lock's is log 33. -/
def Obligations.DegradedReadAnswered : Prop :=
  (∀ (s : State) (p : PortId) (id : Nat) (e : ListEntry) (c : CtxId) (r : InFlight) (place : Place)
    (data : List Sector), s.ReadsFor p id e c → e.op.kind = .read → data.length = 8 * e.op.count →
    (s.ctx c).state = .reading → (s.ctx c).outstanding = [p] → (s.ctx c).origin = .tag r.tag →
    s.entry? r.tag = some r → r.state = .issued → r.place = some place → s.nobodyWaits c → s.job.state ≠ .active →
    let x := s.ctx c
    let lanes := lanesGood x.lanes data
    let writes := (∀ l ∈ lanes, l.class = .good) ∧
      ∃ q, x.target = some q ∧ (s.port q).bound = true ∧ x.targetMember ≠ none ∧ s.job.target = x.targetMember
    (x.kind = .degraded ∨ x.kind = .fill ∧ ¬ writes) →
    let from_ := 8 * (place.offset - x.first)
    let lost (b k : Nat) : Prop := ∃ l, lanes[from_ + 8 * b + k]? = some l ∧ l.class ≠ .good
    let done : State := (s.ended c (x.flags.or (laneCauses lanes))).left p id (s.port p).errors
    let result := exec (.driveCompletion p id (.good data)) s
    ((∀ b k, b < r.count → k < 8 → ¬ lost b k) → result = .next (done.withResponse r.tag
      { status := .good, payload := .sectors (((lanes.drop from_).take (8 * r.count)).map (·.acc)) })) ∧
    (∀ b, b < r.count → (∃ k, k < 8 ∧ lost b k) → (∀ a k, a < b → k < 8 → ¬ lost a k) →
      ∃ mask : Byte, (∀ k, k < 8 → (mask.getLsbD k = true ↔ lost b k)) ∧
        result = .next (done.withResponse r.tag { status := .media, badOffset := place.offset + b, mask }))) ∧
  (∀ (s : State) (p : PortId) (id : Nat) (e : ListEntry) (c : CtxId) (w : InFlight) (place : Place) (m : PortId)
    (data : List Sector), s.ReadsFor p id e c → s.txRests → e.op.kind = .read → data.length = 8 * e.op.count →
    (s.ctx c).kind = .degraded → (s.ctx c).state = .reading → (s.ctx c).outstanding = [p] →
    (s.ctx c).origin = .noRequest → s.job.state ≠ .active → s.TableInv → s.entry? w.tag = some w → w.place = some place →
    s.portOf w.slot = some m →
    let ended := s.ended c ((s.ctx c).flags.or (laneCauses (lanesGood (s.ctx c).lanes data)))
    (∀ q, s.slt.held = [{ tag := w.tag, lock := c }] → s.engine.waitList = [] → w.state = .held → w.op = .write →
      s.routeOf w.slot m .write place.stripe = .forward q → (s.port q).health = .online → (s.port q).hasRoom = true →
      (∀ l ∈ s.slt.locks, l.ctx = c ∨ l.overlaps (s.firstBlock place.stripe) (s.lastBlock place.stripe) = false) →
      let write : DriveOp := { kind := .write, addr := w.addr, count := w.count, orig := .tag w.tag, fgWrite := true
                               payload := .sectors w.data }
      let released : State := { ended with slt := { ended.slt with held := [] } }
      exec (.driveCompletion p id (.good data)) s =
        .next ((((released.setPort p ((s.port p).without id)).enlist q write).countForeground.issue p).setEntry w.tag
          (fun x => { x with state := .issued, forward := some (q, .write), ctx := none, data := [] }))) ∧
    (∀ mask, (∀ h ∈ s.slt.held, h.lock ≠ c) → s.engine.waitList = [w.tag] → w.state = .waiting → w.op = .read →
      s.routeOf w.slot m .read place.stripe = .reconstruct .degraded mask none none →
      (∀ l ∈ s.slt.locks, l.ctx = c ∨ l.overlaps (s.firstBlock place.stripe) (s.lastBlock place.stripe) = false) →
      s.foregroundInUse ≤ 6 → (∀ k, (s.ctx k).state ≠ .free) → s.engine.late.head? ≠ some true →
      let first := s.firstBlock place.stripe
      let n := s.foregroundWrites first (s.lastBlock place.stripe)
      0 < n →
      let lock : Lock :=
        { ctx := c, stripe := place.stripe, first, last := s.lastBlock place.stripe, granted := false, drain := n }
      let taken := Context.taken ((s.ctx c).serial + 1) .degraded place.stripe place.offset w.count mask none none
        (.tag w.tag)
      let offered : State := { ended with
        slt := { ended.slt with locks := ended.slt.locks ++ [lock] }
        engine := { ended.engine with waitList := [], late := s.engine.late.tail } }
      exec (.driveCompletion p id (.good data)) s =
        .next (((offered.setCtx c taken).left p id (s.port p).errors).setEntry w.tag
          (fun x => { x with state := .issued, forward := none, ctx := some c }))))

/-- R92 and R87: the last READ of a FILL context answers its request at once and the context no longer names it; with no
lane of the strip lost, its target port bearing the bound mark and T its target member, it enters WRITING and its WRITE of
the whole strip is admitted to the spare and counted toward the foreground. R93 and R110: the GOOD completion of that
WRITE puts the stripe into the ahead set in order, and the context ends. R89: a FAULT of that WRITE from a target port that
is FAILED ends the context, with its flags ORed into the sticky causes and nothing inserted. That the range is the lock's,
which can outlive an installation, is the model's inference (log 33). -/
def Obligations.FillWritesStrip : Prop :=
  ∀ (s : State) (p : PortId) (id : Nat) (e : ListEntry) (c : CtxId) (q : PortId) (data : List Sector),
    s.ReadsFor p id e c → (s.ctx c).kind = .fill → (s.ctx c).target = some q →
    let x := s.ctx c
    ((s.port q).bound = true → x.targetMember ≠ none → s.job.target = x.targetMember →
      (∀ (r : InFlight) (place : Place) (l : Lock), e.op.kind = .read → data.length = 8 * e.op.count →
        x.state = .reading → x.outstanding = [p] → x.origin = .tag r.tag → s.entry? r.tag = some r → r.state = .issued →
        r.place = some place → s.slt.locks.find? (fun k => k.ctx == c) = some l → (s.port q).health = .online →
        (s.port q).hasRoom = true → (∀ k ∈ x.lanes, k.missing = false ∧ k.unreadable = false) →
        let lanes := lanesGood x.lanes data
        let write : DriveOp := { kind := .write, addr := l.first, count := x.count, orig := .ctx c x.serial
                                 fgWrite := false, payload := .sectors (lanes.map (·.acc)) }
        let asked := ((lanes.drop (8 * (place.offset - x.first))).take (8 * r.count)).map (·.acc)
        exec (.driveCompletion p id (.good data)) s =
          .next (((((s.setPort p ((s.port p).without id)).setCtx c
            { x with state := .writing, origin := .noRequest, outstanding := [], lanes := lanes
                     classes := List.replicate lanes.length .good }).enlist q write).countForeground.issue p).withResponse
              r.tag { status := .good, payload := .sectors asked })) ∧
      (e.op.kind = .write → x.state = .writing → s.txRests → s.nobodyWaits c →
        (s.job.state = .stopping ∨ s.job.state = .stopped ∨ s.job.state = .paused) → s.job.w ≤ x.stripe →
        s.spareCurrent x.stripe = false → s.job.ahead.length < 64 → s.job.ahead.Pairwise (· < ·) →
        ∃ ahead : List Nat, ahead.Pairwise (· < ·) ∧ (∀ t, t ∈ ahead ↔ t = x.stripe ∨ t ∈ s.job.ahead) ∧
          exec (.driveCompletion p id (.good data)) s =
            .next (({ s with job := { s.job with ahead } }.ended c x.flags).left p id (s.port p).errors))) ∧
    (e.op.kind = .write → x.state = .writing → s.txRests → s.nobodyWaits c → s.job.state ≠ .active →
      (s.port p).health = .failed →
      exec (.driveCompletion p id .fault) s =
        .next ((s.ended c x.flags).left p id (min ((s.port p).errors + 1) 15)))

/-- R86 and R87: the last READ of a SWEEP context takes it to WRITING, its lane classes and cause flags formed, and a WRITE
of the whole strip goes to the spare with zeros in the lost lanes and the exclusive-OR in the others, not counted toward the
foreground. R88: the GOOD completion of that WRITE with a lost lane takes the context to MARKING with POISON_WRITTEN set,
and a MARKBAD over the strip goes to the spare, naming exactly the blocks that hold a lost lane, ascending, each with the
mask of its lost lanes. R89: a FAULT of either operation that does not fail the port sets RETRIED and offers the same
operation again. That the range is the lock's is the model's inference (log 33). -/
def Obligations.LostLanesMarked : Prop :=
  ∀ (s : State) (p : PortId) (id : Nat) (e : ListEntry) (c : CtxId) (l : Lock) (q : PortId) (data : List Sector),
    s.ReadsFor p id e c → s.txRests → (s.ctx c).kind = .sweep → (s.ctx c).target = some q →
    s.slt.locks.find? (fun k => k.ctx == c) = some l → (s.port q).health = .online → (s.port q).hasRoom = true →
    let x := s.ctx c
    let gone := s.setPort p ((s.port p).without id)
    (e.op.kind = .read → data.length = 8 * e.op.count → x.state = .reading → x.outstanding = [p] →
      let lanes := lanesGood x.lanes data
      let write : DriveOp := { kind := .write, addr := l.first, count := x.count, orig := .ctx c x.serial
                               fgWrite := false
                               payload := .sectors (lanes.map (fun k => if k.missing || k.unreadable then 0 else k.acc)) }
      exec (.driveCompletion p id (.good data)) s =
        .next (((gone.setCtx c
          { x with state := .writing, outstanding := [], lanes := lanes, classes := lanes.map Lane.class
                   flags := x.flags.or (laneCauses lanes) }).enlist q write).issue p)) ∧
    (e.op.kind = .write → x.state = .writing → x.classes.any LaneClass.lost = true →
      ∃ items : List (Nat × Byte), items.Pairwise (fun a b => a.1 < b.1) ∧
        (∀ b mask, (b, mask) ∈ items ↔ b < x.count ∧ mask ≠ 0 ∧ ∀ k, k < 8 →
          (mask.getLsbD k = true ↔ ∃ cl, x.classes[8 * b + k]? = some cl ∧ cl ≠ .good)) ∧
        exec (.driveCompletion p id (.good data)) s =
          .next (((gone.setCtx c
            { x with state := .marking, flags := { x.flags with poisonWritten := true } }).enlist q
              { kind := .markbad, addr := l.first, count := x.count, orig := .ctx c x.serial, fgWrite := false
                payload := .marks items }).issue p)) ∧
    (x.state = .writing ∨ x.state = .marking → e.op = s.spareOp c → p = q →
      (s.target.policy.autoFail = false ∨ min ((s.port p).errors + 1) 15 < s.target.policy.failThreshold) →
      exec (.driveCompletion p id .fault) s =
        .next ((((s.setPort p { (s.port p).without id with errors := min ((s.port p).errors + 1) 15 }).setCtx c
          { x with flags := { x.flags with retried := true } }).enlist q e.op).issue p))

/-! ## Sweep ends and the lost block list (chapters 6 and 8) -/

/-- R90, R109, R137 and R138: the last spare operation of a SWEEP context completes GOOD. With no lost lane its
reservation is released; else its lost entry is appended. Its window entry turns DONE, DONE entries at the head of the
window leave, W becomes the head's stripe, and the ahead set keeps the stripes at or above W; the context then ends. Here
with entries left in the window, no milestone due, and no launch to follow for want of credit. That only a retirement
brings the examination before the context is FREE is the model's reading (log 14). -/
def Obligations.SweepStripeRetired : Prop :=
  ∀ (s : State) (p : PortId) (id : Nat) (e : ListEntry) (c : CtxId) (data : List Sector) (u : Nat) (d : Bool)
    (rest : List WindowEntry), s.ReadsFor p id e c → s.txRests → e.op.kind ≠ .read → (s.ctx c).kind = .sweep →
    (s.ctx c).origin = .window (s.ctx c).stripe → s.nobodyWaits c → s.pacing.credit < s.width → s.job.n ∉ s.job.ahead →
    (∀ m ∈ s.notices.milestones, u < m.target) →
    let x := s.ctx c
    let lost := x.classes.any LaneClass.lost
    ((s.job.window.map (fun w => if w.stripe = x.stripe then { w with done := true } else w)).dropWhile (·.done)) =
      { stripe := u, done := d } :: rest →
    let listed := if lost then s.appendLost (s.lostEntry c)
      else { s with lost := { s.lost with reservations := s.lost.reservations - 1 } }
    let job := { listed.job with
      window := { stripe := u, done := d } :: rest, w := u, ahead := s.job.ahead.filter (fun t => u ≤ t) }
    (x.state = .writing ∧ lost = false ∨ x.state = .marking) →
    exec (.driveCompletion p id (.good data)) s =
      .next (({ listed with job }.ended c x.flags).left p id (s.port p).errors)

/-- R136 and R138: an appended entry goes to the end of the list and its reservation becomes the entry; LOST_ADDED carries
the stripe and the number of items; the 128th entry brings LOST_FULL too and takes an ACTIVE job to PAUSED with cause
LOST_FULL, its notice last. The entry names T, the members whose ports gave an input that was not GOOD, the items of the
blocks with lost lanes, ascending, each with the mask of its lost lanes, and the class or classes of the lost lanes. -/
def Obligations.LostEntryAppended : Prop :=
  (∀ (s : State) (e : LostEntry),
    let full := s.lost.entries.length + 1 = Config.lostBound
    let added := { s with lost :=
      { entries := s.lost.entries ++ [e], reservations := s.lost.reservations - 1 } }.notify
        (.lostAdded e.stripe e.items.length)
    (¬ full → s.appendLost e = added) ∧
    (full → s.job.state ≠ .active → s.appendLost e = added.notify .lostFull) ∧
    (full → s.job.state = .active → s.appendLost e =
      (let paused := added.notify .lostFull
       { paused with job := { paused.job with state := .paused, cause := .lostFull } }.notify
        (.jobState .paused .lostFull s.job.w)))) ∧
  (∀ (s : State) (c : CtxId) (t : Nat), s.job.target = some t →
    let x := s.ctx c
    let e := s.lostEntry c
    e.stripe = x.stripe ∧ e.target = t ∧ e.sources.Pairwise (· < ·) ∧
    (∀ m, m ∈ e.sources ↔ m ≤ 8 ∧ ∃ p ∈ x.sources, (s.port p).role = .member m) ∧
    e.items.Pairwise (fun a b => a.1 < b.1) ∧
    (∀ b mask, (b, mask) ∈ e.items ↔ b < x.count ∧ mask ≠ 0 ∧ ∀ k, k < 8 →
      (mask.getLsbD k = true ↔ ∃ cl, x.classes[8 * b + k]? = some cl ∧ cl ≠ .good)) ∧
    (x.classes.any LaneClass.lost = true →
      (e.cause = .unreadable ↔ .lostMissing ∉ x.classes) ∧ (e.cause = .missing ↔ .lostUnreadable ∉ x.classes)))

/-! ## The rebuild job (chapter 6) -/

/-- R102, with R167: START_REBUILD makes its checks in the order of the table and is refused by the first that fails,
changing nothing in the job. Accepted, it sets W and N to the resume stripe, stops the settle timer, drops the milestones
at or below it, from IDLE, ARMED or DONE takes T, P and the bound mark, and goes ACTIVE with cause COMMAND; with a resume
of StripeCount the job completes at once. Here with no launch to follow for want of credit. A start from DONE that
completes at once forms its notices as `complete` gives (log 16). -/
def Obligations.StartRebuild : Prop :=
  ∀ (s : State) (h : Header) (m p : Byte) (r : Option Nat) (params : List Byte), s.Serves h →
    parseStart params = some (m, p, r) →
    let result := exec (.startRebuild h params) s
    let fresh := s.job.state = .idle ∨ s.job.state = .armed ∨ s.job.state = .done
    let bound := s.job.state = .stopped ∨ s.job.state = .halted
    let refused (status : Status) : Prop := result = .next (s.mgmtRefused h status)
    (¬ fresh → ¬ bound → refused .state) ∧
    (fresh ∨ bound → 9 < p.toNat → refused .range) ∧
    ∀ q : PortId, q.val = p.toNat → fresh ∨ bound →
      (s.width ≤ m.toNat → refused .noMember) ∧
      (m.toNat < s.width → s.failedMembers ≠ [m.toNat] → refused .state) ∧
      (m.toNat < s.width → s.failedMembers = [m.toNat] →
        (s.port q).role ≠ .spare ∨ (s.port q).health ≠ .online → refused .spareUnfit) ∧
      (m.toNat < s.width → s.failedMembers = [m.toNat] → (s.port q).role = .spare → (s.port q).health = .online →
        (bound → s.job.target ≠ some m.toNat ∨ s.job.spare ≠ some q → refused .range) ∧
        (bound → s.job.target = some m.toNat → s.job.spare = some q → s.job.w < r.getD s.job.w → refused .range) ∧
        (fresh → s.stripeCount < r.getD 0 → refused .range) ∧
        let accepted (resume : Nat) (port : Port) : Prop :=
          let begun : State := { s.setPort q port with
            job := { s.job with w := resume, n := resume, settle := none, armed := none, target := some m.toNat
                                spare := some q }
            notices := { s.notices with milestones := s.notices.milestones.filter (fun x => resume < x.target) } }
          (resume = s.stripeCount → result = .next (begun.complete.mgmtDone h)) ∧
          (resume < s.stripeCount → resume ∉ s.job.ahead → s.pacing.credit < s.width →
            result = .next (({ begun with job := { begun.job with state := .active, cause := .command } }.notify
              (.jobState .active .command resume)).mgmtDone h))
        (fresh → r.getD 0 ≤ s.stripeCount → accepted (r.getD 0) { s.port q with bound := true }) ∧
        (bound → s.job.target = some m.toNat → s.job.spare = some q → r.getD s.job.w ≤ s.job.w →
          accepted (r.getD s.job.w) (s.port q)))

/-- R103: STOP_REBUILD in ACTIVE with stripes in the window takes the job to STOPPING and waits, and later commands are
taken meanwhile; in ACTIVE or PAUSED with none, to STOPPED with GOOD; in STOPPING and STOPPED it is answered GOOD with no
change, and elsewhere refused STATE. The retirement that empties the window in STOPPING with N below StripeCount takes
the job to STOPPED and answers the awaiting STOP GOOD after its notice. That the awaiting STOP is answered after the
notice is the model's reading (log 31). -/
def Obligations.StopRebuild : Prop :=
  (∀ (s : State) (h : Header), s.Serves h →
    let result := exec (.stopRebuild h []) s
    let goes (st : JobState) (awaiting : Option Nat) : State :=
      { s with job := { s.job with state := st, cause := .command, awaiting } }.notify (.jobState st .command s.job.w)
    (s.job.state = .active → s.job.window ≠ [] →
      result = .next ({ goes .stopping (some h.tag.toNat) with
        table := s.table ++ [{ newEntry .manage h [] with state := .issued }] }.transmit)) ∧
    (s.job.state = .active ∨ s.job.state = .paused → s.job.window = [] →
      result = .next ((goes .stopped s.job.awaiting).mgmtDone h)) ∧
    (s.job.state = .stopping ∨ s.job.state = .stopped → result = .next (s.mgmtDone h)) ∧
    (s.job.state = .idle ∨ s.job.state = .armed ∨ s.job.state = .halted ∨ s.job.state = .done →
      result = .next (s.mgmtRefused h .state))) ∧
  (∀ (s : State) (p : PortId) (id : Nat) (e : ListEntry) (c : CtxId) (tag : Nat) (data : List Sector),
    s.ReadsFor p id e c → e.op.kind = .write → (s.ctx c).kind = .sweep → (s.ctx c).state = .writing →
    (s.ctx c).origin = .window (s.ctx c).stripe → (s.ctx c).classes.any LaneClass.lost = false → s.nobodyWaits c →
    (∃ r, s.entry? tag = some r ∧ r.state = .issued) → s.job.window = [{ stripe := (s.ctx c).stripe, done := false }] → s.job.state = .stopping →
    s.job.n < s.stripeCount → s.job.awaiting = some tag → (∀ m ∈ s.notices.milestones, s.job.n < m.target) →
    exec (.driveCompletion p id (.good data)) s =
      .next ((((({ s with
        lost := { s.lost with reservations := s.lost.reservations - 1 }
        job := { s.job with window := [], w := s.job.n, ahead := s.job.ahead.filter (fun t => s.job.n ≤ t)
                            state := .stopped, cause := .command, awaiting := none } }.notify
          (.jobState .stopped .command s.job.n)).withResponse tag (.plain .good)).ended c (s.ctx c).flags).left p id
            (s.port p).errors)))

/-- R104, R115, R117, R95: the transition that ends or halts a bound job empties the window and the ahead set, releases
the reservations of the IN_FLIGHT entries and abandons every SWEEP context (a spare loss the FILL contexts too): such a
context is FREE without a lock, its entries in port lists are orphans that keep every other field, its deferred operations
are gone. Other contexts run on. Health, roles and error counts stand. A second fault leaves HALTED with N at W, T, P and
the mark; an abandonment leaves IDLE with W and N 0, no T, no P and no mark. -/
def Obligations.SweepContextsAbandoned : Prop :=
  ∀ s : State,
    let sweep (c : CtxId) : Prop := (s.ctx c).state ≠ .free ∧ (s.ctx c).kind = .sweep
    let abandoned (gone : CtxId → Prop) (t : State) : Prop :=
      t.job.window = [] ∧ t.job.ahead = [] ∧ t.lost.entries = s.lost.entries ∧
      t.lost.reservations = s.lost.reservations - (s.job.window.filter (fun e => !e.done)).length ∧
      (∀ c, gone c → (t.ctx c).state = .free ∧ ∀ l ∈ t.slt.locks, l.ctx ≠ c) ∧
      (∀ c, ¬ gone c → t.ctx c = s.ctx c ∧ ∀ l, l.ctx = c → (l ∈ t.slt.locks ↔ l ∈ s.slt.locks)) ∧
      (∀ p, (t.port p).health = (s.port p).health ∧ (t.port p).role = (s.port p).role ∧
        (t.port p).errors = (s.port p).errors ∧ (t.port p).list.length = (s.port p).list.length ∧
        (∀ i (hi : i < (s.port p).list.length) (hj : i < (t.port p).list.length),
          let e := (s.port p).list[i]
          ((∃ c n, gone c ∧ e.op.orig = .ctx c n) →
            (t.port p).list[i] = { e with op := { e.op with orig := .orphan } }) ∧
          ((∀ c n, gone c → e.op.orig ≠ .ctx c n) → (t.port p).list[i] = e)) ∧
        (∀ op, op ∈ (t.port p).deferred ↔ op ∈ (s.port p).deferred ∧ ∀ c n, gone c → op.orig ≠ .ctx c n))
    abandoned sweep s.secondFault.2 ∧ abandoned sweep s.abandonJob.2 ∧
    abandoned (fun c => sweep c ∨ ((s.ctx c).state ≠ .free ∧ (s.ctx c).kind = .fill)) s.spareLoss.2 ∧
    (let j := s.secondFault.2.job
     j.state = .halted ∧ j.cause = .secondFault ∧ j.w = s.job.w ∧ j.n = s.job.w ∧ j.target = s.job.target ∧
     j.spare = s.job.spare ∧ ∀ p, (s.secondFault.2.port p).bound = (s.port p).bound) ∧
    (let j := s.abandonJob.2.job
     j.state = .idle ∧ j.cause = .command ∧ j.w = 0 ∧ j.n = 0 ∧ j.target = none ∧ j.spare = none ∧
     ∀ p, s.job.spare = some p → (s.abandonJob.2.port p).bound = false)

/-- R115 and R117 as commands meet them, with no SWEEP or FILL context in use. FAIL_MEMBER of a member other than T in
STOPPED: the port fails with its notice, then the job is HALTED with cause SECOND_FAULT and its notice, then the command
is answered GOOD (R31, R32). The link loss of the bound spare: its MEMBER_FAILED notice names T, the job goes IDLE with
cause SPARE_LOST, W and N 0 and no mark. ABANDON_REBUILD (R104): the job goes IDLE with cause COMMAND; in IDLE, ARMED and
DONE it is refused STATE. -/
def Obligations.BoundJobEnds : Prop :=
  (∀ (s : State) (h : Header) (b : Byte) (p : PortId) (t : Nat), s.Serves h → b.toNat < s.width →
    s.portOf b.toNat = some p → (s.port p).health = .online → (s.port p).bound = false →
    (∀ e ∈ (s.port p).list, e.issue.isSome = true) → (s.port p).deferred = [] → s.job.state = .stopped →
    s.job.target = some t → t ≠ b.toNat → s.job.awaiting = none → s.job.window = [] → s.engine.waitList = [] →
    (∀ c, (s.ctx c).state ≠ .free → (s.ctx c).kind ≠ .sweep) →
    let failed := (s.setPort p { s.port p with health := .failed }).notify (.memberFailed p b.toNat .command)
    let halted : State := { failed with job := { failed.job with
      window := [], ahead := [], n := s.job.w, state := .halted, cause := .secondFault } }
    exec (.failMember h [b]) s = .next ((halted.notify (.jobState .halted .secondFault s.job.w)).mgmtDone h)) ∧
  (∀ (s : State) (p : PortId) (t : Nat), s.Quiet → s.job.state.bound = true → s.job.spare = some p →
    s.job.target = some t → (s.port p).bound = true → (s.port p).role = .spare → (s.port p).health = .online →
    (s.port p).list = [] → (s.port p).deferred = [] → s.job.awaiting = none → s.job.window = [] →
    s.engine.waitList = [] → (∀ c, (s.ctx c).state = .free) → s.target.policy.autoStart = false →
    let lost := (s.setPort p { s.port p with link := false, health := .failed }).notify (.memberFailed p t .link)
    let idle : State := { lost.setPort p { s.port p with link := false, health := .failed, bound := false } with
      job := { s.job with state := .idle, cause := .spareLost, target := none, spare := none, armed := none
                          settle := none, w := 0, n := 0, window := [], ahead := [] } }
    exec (.driveLinkDown p) s = .next (idle.notify (.jobState .idle .spareLost 0))) ∧
  (∀ (s : State) (h : Header), s.Serves h →
    (s.job.state.bound = false → exec (.abandonRebuild h []) s = .next (s.mgmtRefused h .state)) ∧
    (∀ p, s.job.state.bound = true → s.job.spare = some p → s.job.awaiting = none → s.job.window = [] →
      s.engine.waitList = [] → (∀ c, (s.ctx c).state ≠ .free → (s.ctx c).kind ≠ .sweep) →
      let idle : State := { s.setPort p { s.port p with bound := false } with
        job := { s.job with state := .idle, cause := .command, target := none, spare := none, armed := none
                            settle := none, w := 0, n := 0, window := [], ahead := [] } }
      exec (.abandonRebuild h []) s = .next ((idle.notify (.jobState .idle .command 0)).mgmtDone h)))

/-- R11 and R112: at completion P becomes MEMBER(T) and loses the mark, T's old port becomes UNUSED and keeps its health
and error count, role copies and committed map alike; the rest of the map, the staged map and every other port stand. The
job is DONE with cause COMPLETE, its ahead set and window empty, T and P kept; JOB_STATE and then COMPLETE are formed. -/
def Obligations.CompletionExchangesRoles : Prop :=
  ∀ (s : State) (t : Nat) (p q : PortId), s.job.target = some t → s.job.spare = some p → s.portOf t = some q → p ≠ q →
    s.job.awaiting = none → (∀ m ∈ s.notices.milestones, s.job.w < m.target) →
    let exchanged : State := { (s.setPort q { s.port q with role := .unused }).setPort p
        { s.port p with role := .member t, bound := false } with
      target := { s.target with committed := { s.target.committed with
        roles := (s.target.committed.roles.set q .unused).set p (.member t) } }
      job := { s.job with state := .done, cause := .complete, ahead := [], window := [] } }
    s.complete = (exchanged.notify (.jobState .done .complete s.job.w)).notify (.complete t p)

/-- R35, R36, R26 and R32: with AutoStart on and the job IDLE or DONE, FAIL_MEMBER of the only failing member arms the job
with cause AUTO and loads the settle timer with SettleTime; the expiry starts a rebuild from stripe 0 on the
lowest-numbered port that is SPARE and ONLINE, with cause AUTO, and takes the job to IDLE with cause AUTO where there is
none. With a SettleTime of 0 the timer expires as soon as it is loaded: the notice of the arming and then that of the
expiry are formed before the command is answered, and so before a waiting command is taken. Here with no launch to follow for want of credit. The moments on the clock are the model's (log 2 and log 3), and so
is that the command changes nothing while no settle timer runs (log 35). -/
def Obligations.ArmingAndExpiry : Prop :=
  (∀ (s : State) (h : Header) (b : Byte) (p : PortId), s.Serves h → b.toNat < s.width → s.portOf b.toNat = some p →
    (s.port p).health = .online → (s.port p).bound = false → (∀ e ∈ (s.port p).list, e.issue.isSome = true) →
    (s.port p).deferred = [] → s.failedMembers = [] → s.target.policy.autoStart = true →
    (s.job.state = .idle ∨ s.job.state = .done) →
    let fit (q : PortId) : Prop := (s.port q).role = .spare ∧ (s.port q).health = .online
    let failed := (s.setPort p { s.port p with health := .failed }).notify (.memberFailed p b.toNat .command)
    let armed := { failed with job := { failed.job with
      state := .armed, cause := .auto, armed := some b.toNat
      settle := some (s.now + s.target.policy.settleTime * 1000 * 1000) } }.notify (.jobState .armed .auto s.job.w)
    let result := exec (.failMember h [b]) s
    (0 < s.target.policy.settleTime → result = .next (armed.mgmtDone h)) ∧
    (s.target.policy.settleTime = 0 → (∀ q, ¬ fit q) → result = .next (({ armed with job := { armed.job with
      state := .idle, cause := .auto, target := none, spare := none, armed := none, settle := none } }.notify
        (.jobState .idle .auto s.job.w)).mgmtDone h)) ∧
    (∀ q, s.target.policy.settleTime = 0 → fit q → (∀ r, r < q → ¬ fit r) → 0 < s.stripeCount → 0 ∉ s.job.ahead →
      s.pacing.credit < s.width → result = .next (({ armed.setPort q { armed.port q with bound := true } with
        job := { armed.job with state := .active, cause := .auto, target := some b.toNat, spare := some q, armed := none
                                settle := none, w := 0, n := 0 }
        notices := { armed.notices with milestones := armed.notices.milestones.filter (fun x => 0 < x.target) } }.notify
          (.jobState .active .auto 0)).mgmtDone h))) ∧
  (∀ (s : State) (due m : Nat), s.Rests → s.job.state = .armed → s.job.settle = some due → s.job.armed = some m →
    let fit (q : PortId) : Prop := (s.port q).role = .spare ∧ (s.port q).health = .online
    let u := s.advanceTo due
    ((∀ q, ¬ fit q) → exec .settleTimerExpiry s = .next (({ u with job := { u.job with
      state := .idle, cause := .auto, target := none, spare := none, armed := none, settle := none } }.notify
        (.jobState .idle .auto s.job.w)).transmit)) ∧
    (∀ q, fit q → (∀ r, r < q → ¬ fit r) → 0 < s.stripeCount → 0 ∉ s.job.ahead → s.pacing.credit < s.width →
      exec .settleTimerExpiry s = .next (({ u.setPort q { u.port q with bound := true } with
        job := { u.job with state := .active, cause := .auto, target := some m, spare := some q, armed := none
                            settle := none, w := 0, n := 0 }
        notices := { u.notices with milestones := u.notices.milestones.filter (fun x => 0 < x.target) } }.notify
          (.jobState .active .auto 0)).transmit))) ∧
  (∀ s : State, s.job.settle = none → exec .settleTimerExpiry s = .next s)

/-- R106: at an examination the cursor passes a stripe of the ahead set whatever the credit, and W with it over an
empty window, here at a period end that brings too little credit for a launch after it. That this is so with a budget
of 0 too, where R131 speaks of a W that stands, is the model's reading (log 38). R105, R107, R124: a period end that
brings enough credit launches the stripe at N. Here with a SweepDepth of 1 and an empty window: one entry IN_FLIGHT
joins the window, a reservation is taken, StripeCost leaves the credit, N rises by 1, and the lowest-numbered FREE
context is taken for the whole strip with every member port but T's as mask. It requests its lock at once, DRAINING
while foreground writes to the stripe stand in port lists, else GRANTED with its READs offered. That the lock request
comes at once is the model's choice (log 10), and so is the clock (log 2). -/
def Obligations.PeriodEndLaunchesSweep : Prop :=
  (∀ s : State, s.Rests → s.job.state = .active → s.job.window = [] → s.job.ahead = [s.job.n] → s.job.w ≤ s.job.n →
    s.job.n + 1 < s.stripeCount → (∀ m ∈ s.notices.milestones, s.job.n + 1 < m.target) →
    let u := (s.advanceTo s.pacing.periodDue).periodEnd s.pacing.periodDue
    u.pacing.credit < s.width → exec .periodEnd s =
      .next { u with job := { s.job with n := s.job.n + 1, w := s.job.n + 1, ahead := [] } }.transmit) ∧
  ∀ (s : State) (c : CtxId) (t : Nat), s.Rests → s.job.state = .active → s.job.window = [] → s.job.ahead = [] →
    s.job.target = some t → s.job.n < s.stripeCount → s.target.policy.sweepDepth = 1 →
    s.lost.entries.length + s.lost.reservations < 128 → s.locked s.job.n = false → s.engine.waitList = [] →
    (s.ctx c).state = .free → (∀ k, k < c → (s.ctx k).state ≠ .free) → (∀ l ∈ s.slt.locks, l.ctx ≠ c) →
    let u := (s.advanceTo s.pacing.periodDue).periodEnd s.pacing.periodDue
    s.width ≤ u.pacing.credit →
    let first := s.firstBlock s.job.n
    let last := s.lastBlock s.job.n
    let writes := s.foregroundWrites first last
    let fresh := Context.taken ((s.ctx c).serial + 1) .sweep s.job.n 0 s.stripBlocks (s.memberPortsExcept [t])
      s.job.spare none (.window s.job.n)
    let taken : State := { u with
      job := { s.job with window := [{ stripe := s.job.n, done := false }], n := s.job.n + 1 }
      lost := { s.lost with reservations := s.lost.reservations + 1 }
      pacing := { u.pacing with credit := u.pacing.credit - s.width }
      slt := { s.slt with locks := s.slt.locks ++
        [{ ctx := c, stripe := s.job.n, first, last, granted := writes == 0, drain := writes }] } }
    let launched := taken.setCtx c fresh
    (writes ≠ 0 → exec .periodEnd s = .next launched.transmit) ∧
    (writes = 0 → (∀ q ∈ s.memberPortsExcept [t], (s.port q).health = .online ∧ (s.port q).hasRoom = true) →
      exec .periodEnd s = .next (launched.reading c first).transmit)

/-! ## Pacing (chapter 7) -/

/-- R125: the budget of a period. Mode FIXED: Share. YIELD: Share less the deduction fg × Weight / 16 rounded down, but no
less than Floor, Floor itself counting no more than Share. BURST: 1,023. So it lies between F and Share in YIELD, and is
at most 1,023 in every mode. R126: the carry is the credit left, but at most
StripeCost − 1, and 0 with no committed map. -/
def Obligations.BudgetAndCarry : Prop :=
  ∀ (r : PacingRecord) (fg : Nat),
    (r.mode = .fixed → r.budget fg = r.share) ∧
    (r.mode = .yield → r.budget fg = max (r.share - fg * r.weight / 16) (min r.floor r.share)) ∧
    (r.mode = .burst → r.budget fg = 1023) ∧
    (r.mode = .yield → min r.floor r.share ≤ r.budget fg ∧ r.budget fg ≤ r.share) ∧
    (r.share ≤ 1023 → r.budget fg ≤ 1023) ∧
    ∀ credit cost : Nat, carry credit cost = min credit (cost - 1)

/-- R123 and R124: the last tick of a period brings the period end, and PERIOD_END the remaining ticks of the period with
it: a staged record is put in force, B is computed from it and the foreground count, the credit becomes B plus the carry,
the foreground count and the tick count become 0, and the next tick has the new length of 16 × 2^TickSelect
microseconds. Any other tick raises the tick count by 1. Here with the job in any state but ACTIVE, and with no settle
timer of an ARMED job that the moment of the tick makes due. The moments on the clock, and PERIOD_END as the remaining
ticks, are the model's reading (log 2 and log 4). -/
def Obligations.PeriodEnd : Prop :=
  ∀ s : State, s.Rests → s.job.state ≠ .active →
    let r := if s.pacing.stagedPending then s.pacing.staged else s.pacing.inForce
    let ended (due : Nat) : State := { s with
      now := max s.now due
      pacing := { s.pacing with
        inForce := r, stagedPending := false, budget := r.budget s.pacing.fg
        credit := r.budget s.pacing.fg + min s.pacing.credit (s.width - 1)
        fg := 0, ticks := 0, tickDue := due + 16 * 2 ^ r.tickSelect } }
    let last := s.pacing.tickDue +
      (s.pacing.inForce.periodTicks - s.pacing.ticks - 1) * (16 * 2 ^ s.pacing.inForce.tickSelect)
    ((s.advanceTo last).settleDue = false → exec .periodEnd s = .next (ended last).transmit) ∧
    ((s.advanceTo s.pacing.tickDue).settleDue = false →
      (s.pacing.inForce.periodTicks ≤ s.pacing.ticks + 1 → exec .tick s = .next (ended s.pacing.tickDue).transmit) ∧
      (s.pacing.ticks + 1 < s.pacing.inForce.periodTicks → exec .tick s = .next { s with
        now := max s.now s.pacing.tickDue
        pacing := { s.pacing with
          ticks := s.pacing.ticks + 1
          tickDue := s.pacing.tickDue + 16 * 2 ^ s.pacing.inForce.tickSelect } }.transmit))

/-- R123: the ticks left in a period, taken one after another, come to the same state as PERIOD_END. Here with the job in
any state but ACTIVE, and with no settle timer of an ARMED job that the period's end makes due. This is the model's reading
of the row PERIOD_END (log 4). -/
def Obligations.TicksMakePeriod : Prop :=
  ∀ s : State, s.Rests → s.job.state ≠ .active → (s.advanceTo s.pacing.periodDue).settleDue = false →
    s.pacing.ticks < s.pacing.inForce.periodTicks →
    execAll (List.replicate (s.pacing.inForce.periodTicks - s.pacing.ticks) .tick) s = exec .periodEnd s

/-! ## Notices, milestones and the transmitter (chapter 9; chapter 3, section 3.6) -/

/-- R149, R150, R151: a notice of a disabled kind is dropped and changes nothing. An enabled one joins the end of a queue
of fewer than 16. At 16, a MILESTONE or LOST_ADDED is discarded; any other kind displaces the oldest MILESTONE or
LOST_ADDED of the queue, the rest in their order, and is discarded where there is none; each of the three sets the
notices-lost flag. The transmitter then chooses again (R59). -/
def Obligations.NoticeOffered : Prop :=
  ∀ (s : State) (n : Notice),
    let progress (x : Notice) : Prop := (∃ tag w, x = .milestone tag w) ∨ (∃ t k, x = .lostAdded t k)
    let held (queue : List Notice) (lost : Bool) : State :=
      { s with notices := { s.notices with queue, lost } }.transmit
    let full := 16 ≤ s.notices.queue.length
    (s.notices.mask.getLsbD n.maskBit = false → s.notify n = s) ∧
    (s.notices.mask.getLsbD n.maskBit = true →
      (¬ full → s.notify n = held (s.notices.queue ++ [n]) s.notices.lost) ∧
      (full → progress n → s.notify n = held s.notices.queue true) ∧
      (full → ¬ progress n → (∀ x ∈ s.notices.queue, ¬ progress x) → s.notify n = held s.notices.queue true) ∧
      (full → ¬ progress n → ∀ before oldest after, s.notices.queue = before ++ oldest :: after → progress oldest →
        (∀ x ∈ before, ¬ progress x) → s.notify n = held (before ++ after ++ [n]) true))

/-- R146: a rise of W to `w` removes from the milestone table every entry at or below it and forms a MILESTONE notice for
each, in ascending order of target, with the entry's tag and the new W; the others stay in their order. -/
def Obligations.MilestonesFire : Prop :=
  ∀ (s : State) (w : Nat), s.notices.milestones.Pairwise (fun a b => a.target < b.target) →
    s.fireMilestones w = (s.notices.milestones.filter (fun m => m.target ≤ w)).foldl
      (fun t m => t.notify (.milestone m.tag w))
      { s with notices := { s.notices with milestones := s.notices.milestones.filter (fun m => w < m.target) } }

/-- R59 and R153: a free transmitter with the link up begins the oldest response, else, once the gap has elapsed since the
last notice frame was sent, the head notice, which leaves its queue; a busy one, or one with the link down, begins
nothing. R58: a response sent in full leaves the queue and its entry leaves the table; after the answer of RESET_BRIDGE
the bridge reset follows at once (R171). A notice sent in full starts the gap. The moments on the clock, the moment of
choosing and the reset within the same step are the model's reading (log 3, log 9 and log 13), and so is that a frame-sent
command changes nothing while no such frame is being sent (log 35). -/
def Obligations.TransmitterChooses : Prop :=
  (∀ s : State,
    let elapsed := ∀ t, s.channel.lastNotice = some t → t + s.notices.gap * 1000 ≤ s.now
    (s.channel.tx ≠ .idle ∨ s.channel.up = false → s.transmit = s) ∧
    (s.channel.tx = .idle → s.channel.up = true →
      (s.channel.responses ≠ [] → s.transmit = { s with channel := { s.channel with tx := .response } }) ∧
      (∀ n rest, s.channel.responses = [] → s.notices.queue = n :: rest → elapsed → s.transmit =
        { s with channel := { s.channel with tx := .notice n }, notices := { s.notices with queue := rest } }) ∧
      (s.channel.responses = [] → (s.notices.queue = [] ∨ ¬ elapsed) → s.transmit = s))) ∧
  (∀ (s : State) (r : QueuedResponse) (rest : List QueuedResponse), s.Rests → s.committing = false →
    s.channel.tx = .response → s.channel.responses = r :: rest →
    let sent := { s with channel := { s.channel with responses := rest, tx := .idle } }
    (∀ tag status, r = .refusal tag status → exec .responseFrameSent s = .next sent.transmit) ∧
    (∀ tag, r = .entry tag → s.target.current ≠ some (tag, .resetting) → exec .responseFrameSent s =
      .next { sent with table := s.table.filter (fun e => e.tag ≠ tag) }.transmit) ∧
    (∀ tag, r = .entry tag → s.target.current = some (tag, .resetting) →
      exec .responseFrameSent s = exec .bridgeReset s)) ∧
  (∀ s : State, s.channel.tx ≠ .response → exec .responseFrameSent s = .next s) ∧
  (∀ (s : State) (n : Notice), s.Rests → s.channel.tx = .notice n → exec .noticeFrameSent s =
    .next { s with channel := { s.channel with tx := .idle, lastNotice := some s.now } }.transmit) ∧
  (∀ s : State, (∀ n, s.channel.tx ≠ .notice n) → exec .noticeFrameSent s = .next s) ∧
  (∀ s : State, s.Rests →
    (∀ t, s.channel.lastNotice = some t → (s.advanceTo (t + s.notices.gap * 1000)).settleDue = false →
      exec .noticeGapElapsed s = .next { s with now := max s.now (t + s.notices.gap * 1000) }.transmit) ∧
    (s.channel.lastNotice = none → exec .noticeGapElapsed s = .next s.transmit))

/-! ## The management target (chapter 10) -/

/-- R157, R159, R177: a record whose code is none of the twenty is refused UNKNOWN, and one of a length other than its
code calls for FORMAT; the refusal is latched as the last management error and changes nothing else. -/
def Obligations.CommandRefused : Prop :=
  ∀ (s : State) (h : Header), s.Serves h →
    let unknown : Result := .next (s.mgmtRefused h .unknown)
    let format : Result := .next (s.mgmtRefused h .format)
    (∀ code params, knownCommand code = false → exec (.unknownCommand h (code :: params)) s = unknown) ∧
    ∀ params : List Byte,
      (params ≠ [] →
        exec (.identify h params) s = format ∧ exec (.readStatus h params) s = format ∧
        exec (.commitMap h params) s = format ∧ exec (.readMap h params) s = format ∧
        exec (.readPacing h params) s = format ∧ exec (.stopRebuild h params) s = format ∧
        exec (.abandonRebuild h params) s = format ∧ exec (.readMilestones h params) s = format ∧
        exec (.clearSticky h params) s = format ∧ exec (.resetBridge h params) s = format) ∧
      (params.length ≠ 1 →
        exec (.failMember h params) s = format ∧ exec (.restorePort h params) s = format ∧
        exec (.clearHealth h params) s = format ∧ exec (.takeLost h params) s = format) ∧
      (params.length ≠ 16 → exec (.loadMap h params) s = format) ∧
      (params.length ≠ 11 → exec (.setPacing h params) s = format) ∧
      (params.length ≠ 10 → exec (.setPolicy h params) s = format) ∧
      (params.length ≠ 3 → exec (.setNotices h params) s = format) ∧
      (params.length ≠ 2 → params.length ≠ 6 → exec (.startRebuild h params) s = format) ∧
      (params = [] ∨ (∃ n rest, params = n :: rest ∧ (16 < n.toNat ∨ rest.length ≠ 5 * n.toNat)) →
        exec (.loadMilestones h params) s = format)

/-- R163, R164, R132, R144, R180: the commands that read answer GOOD with a record formed from the state as it stands, and
change nothing: part code 2410h and revision 3; the 97 bytes of the status record, each at its place and each number least
significant byte first, which counts the command's own entry among the in-flight ones and reports target and spare as R99
gives; the staged and the committed map; the pacing records in force and staged, with staged-pending; the number of
milestones and each of them. -/
def Obligations.ReadCommands : Prop :=
  ∀ (s : State) (h : Header), s.Serves h →
    let result (record : List Byte) : Result :=
      .next (s.withMgmt h { status := .good, payload := .record record })
    let t : State := { s with table := s.table ++ [{ newEntry .manage h [] with state := .issued }] }
    let target := match s.job.state with
      | .idle => none
      | .armed => s.job.armed
      | _ => s.job.target
    let spare := match s.job.state with
      | .idle | .armed => none
      | _ => s.job.spare
    let inUse (sweep : Bool) : Nat :=
      (allCtxs.filter (fun c => (s.ctx c).state ≠ .free ∧ ((s.ctx c).kind = .sweep ↔ sweep = true))).length
    let bit (b : Bool) (n : Nat) : Nat := if b then n else 0
    exec (.identify h []) s = result [0x10, 0x24, 0x03] ∧
    exec (.readStatus h []) s = result t.statusBytes ∧ t.statusBytes.length = 97 ∧
    t.statusBytes.take 37 =
      [s.arrayState.code, s.job.state.code, s.job.cause.code
      , match target with
        | some m => byteOf m
        | none => 0xFF
      , match spare with
        | some p => byteOf p.val
        | none => 0xFF
      , byteOf s.job.w, byteOf (s.job.w / 256), byteOf (s.job.w / 256 ^ 2), byteOf (s.job.w / 256 ^ 3)
      , byteOf s.job.n, byteOf (s.job.n / 256), byteOf (s.job.n / 256 ^ 2), byteOf (s.job.n / 256 ^ 3)
      , byteOf s.stripeCount, byteOf (s.stripeCount / 256), byteOf (s.stripeCount / 256 ^ 2)
      , byteOf (s.stripeCount / 256 ^ 3)
      , byteOf s.job.window.length, byteOf (inUse true), byteOf (inUse false), byteOf s.job.ahead.length
      , byteOf s.lost.entries.length, byteOf s.lost.reservations
      , byteOf (s.table.filter (fun e => e.state = .held)).length, byteOf (s.table.length + 1)
      , s.pacing.inForce.mode.code
      , byteOf s.pacing.budget, byteOf (s.pacing.budget / 256), byteOf s.pacing.credit, byteOf (s.pacing.credit / 256)
      , byteOf s.pacing.fg, byteOf (s.pacing.fg / 256)
      , byteOf (bit s.pacing.stagedPending 1)
      , byteOf (bit s.engine.sticky.unreadableSeen 1 + bit s.engine.sticky.missingSeen 2 + bit s.engine.sticky.retried 4 +
          bit s.engine.sticky.poisonWritten 8)
      , byteOf (bit s.notices.lost 1)
      , match s.target.lastError with
        | some e => e.code
        | none => 0
      , s.target.lastReset.code] ∧
    (∀ p : PortId, (t.statusBytes.drop (37 + 6 * p.val)).take 6 =
      [(s.port p).role.code, byteOf (bit (s.port p).bound 1), (s.port p).health.code, byteOf (s.port p).errors
      , byteOf (s.port p).outstanding, byteOf (s.port p).list.length]) ∧
    exec (.readMap h []) s = result (s.target.staged.bytes ++ s.target.committed.bytes) ∧
    exec (.readPacing h []) s = result
      (s.pacing.inForce.bytes ++ s.pacing.staged.bytes ++ [if s.pacing.stagedPending then 1 else 0]) ∧
    exec (.readMilestones h []) s = result (byteOf s.notices.milestones.length ::
      s.notices.milestones.flatMap (fun m => le4 m.target ++ [m.tag]))

/-- R3, R145, R149, R169, R170. LOAD_MAP: a record in range becomes the staged map, consistent or not; a role byte of no
kind is refused FORMAT before a value out of range is refused RANGE. LOAD_MILESTONES: a strictly ascending list of targets
from 1 to StripeCount replaces the table but for the entries at or below W; else FORMAT or RANGE. SET_NOTICES: the mask and
the gap are written at once; RANGE for a gap above 255 or a bit that is no kind. CLEAR_STICKY: the sticky causes, the
notices-lost flag and the last management error are cleared. -/
def Obligations.LoadsAndNotices : Prop :=
  ∀ (s : State) (h : Header), s.Serves h →
    (∀ m : MemberMap, m.stripBlocks ∈ [0, 8, 16, 32, 64] → m.stripeCount ≤ 67108863 → m.width ≤ 9 →
      (∀ p i, m.roles.get p = .member i → i ≤ 8) →
      exec (.loadMap h m.bytes) s = .next ({ s with target := { s.target with staged := m } }.mgmtDone h)) ∧
    (∀ (sb c0 c1 c2 c3 width : Byte) (roles : List Byte), roles.length = 10 →
      let known := ∀ r ∈ roles, r.toNat ≤ 1 ∨ (0x10 ≤ r.toNat ∧ r.toNat ≤ 0x1F)
      let result := exec (.loadMap h (sb :: c0 :: c1 :: c2 :: c3 :: width :: roles)) s
      (¬ known → result = .next (s.mgmtRefused h .format)) ∧
      (known → (sb.toNat ∉ [0, 8, 16, 32, 64] ∨ 67108863 < num4 c0 c1 c2 c3 ∨ 9 < width.toNat ∨
        ∃ r ∈ roles, 0x19 ≤ r.toNat) → result = .next (s.mgmtRefused h .range))) ∧
    (∀ ms : List Milestone, ms.length ≤ 16 → (∀ m ∈ ms, m.target < 2 ^ 32) →
      let result := exec (.loadMilestones h (byteOf ms.length :: ms.flatMap (fun m => le4 m.target ++ [m.tag]))) s
      (¬ ms.Pairwise (fun a b => a.target < b.target) → result = .next (s.mgmtRefused h .format)) ∧
      (ms.Pairwise (fun a b => a.target < b.target) →
        ((∃ m ∈ ms, m.target = 0 ∨ s.stripeCount < m.target) → result = .next (s.mgmtRefused h .range)) ∧
        ((∀ m ∈ ms, m.target ≠ 0 ∧ m.target ≤ s.stripeCount) → result = .next ({ s with
          notices := { s.notices with milestones := ms.filter (fun m => s.job.w < m.target) } }.mgmtDone h)))) ∧
    (∀ mask g0 g1 : Byte,
      let result := exec (.setNotices h [mask, g0, g1]) s
      (63 < mask.toNat ∨ 255 < num2 g0 g1 → result = .next (s.mgmtRefused h .range)) ∧
      (mask.toNat ≤ 63 → num2 g0 g1 ≤ 255 → result = .next ({ s with
        notices := { s.notices with mask := mask.setWidth 6, gap := num2 g0 g1 } }.mgmtDone h))) ∧
    exec (.clearSticky h []) s = .next ({ s with
      engine := { s.engine with sticky := .none }, notices := { s.notices with lost := false }
      target := { s.target with lastError := none } }.mgmtDone h)

/-- R129, R130: a pacing record in range becomes the staged record and sets staged-pending; with apply-now a period end
follows at once, before the answer, with the staged record in force. R161, R162, R37: a policy record in range replaces
every field; turning AutoStart off takes an ARMED job to IDLE with cause COMMAND. A value out of range is refused RANGE,
an on/off byte that is neither FORMAT, and nothing else changes. Here with no launch to follow where an examination comes:
in ACTIVE for want of credit. The moments on the clock are the model's (log 2). -/
def Obligations.SetPacingAndPolicy : Prop :=
  ∀ (s : State) (h : Header), s.Serves h →
    (∀ (r : PacingRecord) (now : Byte), r.tickSelect < 256 → r.periodTicks < 65536 → r.share < 65536 →
      r.floor < 65536 → r.weight < 65536 →
      let inRange := r.tickSelect ≤ 7 ∧ 1 ≤ r.periodTicks ∧ r.periodTicks ≤ 255 ∧ r.share ≤ 1023 ∧ r.floor ≤ 1023 ∧
        r.weight ≤ 255
      let result := exec (.setPacing h (r.bytes ++ [now])) s
      (¬ inRange → result = .next (s.mgmtRefused h .range)) ∧
      (inRange → now = 0 →
        result = .next ({ s with pacing := { s.pacing with staged := r, stagedPending := true } }.mgmtDone h)) ∧
      (inRange → now ≠ 0 →
        let u : State := { s with pacing :=
          { s.pacing with
            inForce := r, staged := r, stagedPending := false, budget := r.budget s.pacing.fg
            credit := r.budget s.pacing.fg + min s.pacing.credit (s.width - 1), fg := 0, ticks := 0
            tickDue := s.now + 16 * 2 ^ r.tickSelect } }
        u.noLaunch → result = .next (u.mgmtDone h))) ∧
    (∀ (mode : Byte) (rest : List Byte), mode.toNat = 0 ∨ 3 < mode.toNat → rest.length = 10 →
      exec (.setPacing h (mode :: rest)) s = .next (s.mgmtRefused h .range)) ∧
    (∀ (x : Policy) (af as fill : Byte), x.failThreshold < 256 → x.driveTimeout < 65536 → x.retryLimit < 256 →
      x.settleTime < 65536 → x.sweepDepth < 256 →
      let inRange := 1 ≤ x.failThreshold ∧ x.failThreshold ≤ 15 ∧ 1 ≤ x.driveTimeout ∧ x.driveTimeout ≤ 255 ∧
        x.retryLimit ≤ 3 ∧ x.settleTime ≤ 255 ∧ 1 ≤ x.sweepDepth ∧ x.sweepDepth ≤ 8
      let result := exec (.setPolicy h ([af, byteOf x.failThreshold] ++ le2 x.driveTimeout ++
        [byteOf x.retryLimit, as] ++ le2 x.settleTime ++ [fill, byteOf x.sweepDepth])) s
      let u : State := { s with target := { s.target with
        policy := { x with autoFail := af == 1, autoStart := as == 1, aheadFill := fill == 1 } } }
      (1 < af.toNat ∨ 1 < as.toNat ∨ 1 < fill.toNat → result = .next (s.mgmtRefused h .format)) ∧
      (af.toNat ≤ 1 → as.toNat ≤ 1 → fill.toNat ≤ 1 →
        (¬ inRange → result = .next (s.mgmtRefused h .range)) ∧
        (inRange → s.job.state ≠ .armed ∨ as = 1 → s.noLaunch → result = .next (u.mgmtDone h)) ∧
        (inRange → s.job.state = .armed → as = 0 → result = .next (({ u with job := { s.job with
          state := .idle, cause := .command, target := none, spare := none, armed := none, settle := none } }.notify
            (.jobState .idle .command s.job.w)).mgmtDone h))))

/-- R4, R5, R6, R45, R165. COMMIT_MAP is refused STATE unless the job is IDLE or DONE, then MAP_INVALID for a staged map
that fails a condition of the table; a valid one waits while the in-flight table holds a member request that is not
answered. At the router's report, at once or by MAP_INSTALLATION, the map is installed: roles written and marks cleared at
every port, an ABSENT port of a new MEMBER set FAILED with its notice, in port order after the JOB_STATE of a DONE job;
the job IDLE with W and N 0, the milestones past the new StripeCount dropped; and the command is answered GOOD. Where the
job has left IDLE and DONE meanwhile, the report is answered STATE and nothing is installed. When the report comes is
the model's reading (log 8). -/
def Obligations.MapCommitted : Prop :=
  ∀ s : State,
    let m := s.target.staged
    let index (i : Nat) (p : PortId) : Prop := m.roles.get p = .member i
    let valid : Prop := 3 ≤ m.width ∧ m.width ≤ 9 ∧ 1 ≤ m.stripeCount ∧ m.stripBlocks ∈ [8, 16, 32, 64] ∧
      (∀ i p, index i p → i < m.width) ∧ (∀ i, i < m.width → ∃ p, index i p ∧ ∀ q, index i q → q = p)
    let commits := s.job.state = .idle ∨ s.job.state = .done
    let ports : Vector Port 10 := Vector.ofFn (fun p => { s.port p with
      role := m.roles.get p, bound := false
      health := match m.roles.get p, (s.port p).health with
        | .member _, .absent => .failed
        | _, health => health })
    let written : State := { s with
      target := { s.target with committed := m }, ports
      job := { s.job with state := .idle, cause := .command, target := none, armed := none, spare := none, w := 0, n := 0
                          window := [], ahead := [], settle := none }
      notices := { s.notices with milestones := s.notices.milestones.filter (fun e => e.target ≤ m.stripeCount) } }
    let told := if s.job.state = .done then written.notify (.jobState .idle .command 0) else written
    let installed := allPorts.foldl (fun t p => match m.roles.get p, (s.port p).health with
      | .member i, .absent => t.notify (.memberFailed p i .link)
      | _, _ => t) told
    (∀ h : Header, s.Serves h →
      let result := exec (.commitMap h []) s
      (¬ commits → result = .next (s.mgmtRefused h .state)) ∧
      (commits → ¬ valid → result = .next (s.mgmtRefused h .mapInvalid)) ∧
      (commits → valid → s.drained = true → result = .next (installed.mgmtDone h)) ∧
      (commits → valid → s.drained = false → result = .next ({ s with
        table := s.table ++ [{ newEntry .manage h [] with state := .issued }]
        target := { s.target with current := some (h.tag.toNat, .draining) } }.transmit))) ∧
    (∀ tag : Nat, s.channel.up = true → s.channel.linkFrames = [] → (∀ c, (s.ctx c).stalled = false) →
      s.engine.owed = none → (∃ r, s.entry? tag = some r ∧ r.state = .issued) → s.target.current = some (tag, .draining) → s.target.waiting = [] → s.drained = true →
      (commits → exec .mapInstallation s = .next
        ({ installed with target := { installed.target with current := none } }.withResponse tag (.plain .good))) ∧
      (¬ commits → s.settleDue = false → exec .mapInstallation s = .next ({ s with
        target := { s.target with current := none, lastError := some .state } }.withResponse tag (.plain .state)))) ∧
    ((∀ tag, s.target.current ≠ some (tag, .draining)) ∨ s.drained = false → exec .mapInstallation s = .next s)

/-- R31, R33, R34. FAIL_MEMBER: NO_MEMBER at or above the width; GOOD with no change for a port that is not ONLINE; an
ONLINE port fails with reason COMMAND, here with the job unbound and nothing to arm, or HALTED. RESTORE_PORT and
CLEAR_HEALTH: RANGE above port 9. RESTORE_PORT: JOB_BOUND for T's port or the marked one of a bound job; else the count is
cleared and a FAILED port becomes ONLINE with its link up, ABSENT with its link down unless it is a MEMBER; restoring the
armed member takes an ARMED job to IDLE. CLEAR_HEALTH clears the count alone, in every job state and for every port. -/
def Obligations.PortCommands : Prop :=
  ∀ (s : State) (h : Header) (b : Byte), s.Serves h →
    (s.width ≤ b.toNat → exec (.failMember h [b]) s = .next (s.mgmtRefused h .noMember)) ∧
    (∀ p, b.toNat < s.width → s.portOf b.toNat = some p →
      ((s.port p).health ≠ .online → exec (.failMember h [b]) s = .next (s.mgmtDone h)) ∧
      ((s.port p).health = .online → (s.port p).bound = false → (∀ e ∈ (s.port p).list, e.issue.isSome = true) →
        (s.port p).deferred = [] →
        ((s.job.state = .idle ∨ s.job.state = .done) ∧ s.target.policy.autoStart = false ∨ s.job.state = .halted) →
        exec (.failMember h [b]) s = .next (((s.setPort p { s.port p with health := .failed }).notify
          (.memberFailed p b.toNat .command)).mgmtDone h))) ∧
    (9 < b.toNat → exec (.restorePort h [b]) s = .next (s.mgmtRefused h .range) ∧
      exec (.clearHealth h [b]) s = .next (s.mgmtRefused h .range)) ∧
    (∀ p : PortId, p.val = b.toNat →
      let held := s.job.state.bound = true ∧
        ((s.port p).bound = true ∨ ∃ t, s.job.target = some t ∧ s.portOf t = some p)
      let health := match (s.port p).health, (s.port p).link, (s.port p).role with
        | .failed, true, _ => Health.online
        | .failed, false, .member _ => .failed
        | .failed, false, _ => .absent
        | other, _, _ => other
      let restored := s.setPort p { s.port p with errors := 0, health }
      let disarms := s.job.state = .armed ∧ ∃ m, s.job.armed = some m ∧
        ∃ q, s.portOf m = some q ∧ (restored.port q).health ≠ .failed
      (held → exec (.restorePort h [b]) s = .next (s.mgmtRefused h .jobBound)) ∧
      (¬ held → ¬ disarms → exec (.restorePort h [b]) s = .next (restored.mgmtDone h)) ∧
      (¬ held → disarms → exec (.restorePort h [b]) s = .next (({ restored with job := { s.job with
        state := .idle, cause := .command, target := none, spare := none, armed := none, settle := none } }.notify
          (.jobState .idle .command s.job.w)).mgmtDone h)) ∧
      exec (.clearHealth h [b]) s = .next ((s.setPort p { s.port p with errors := 0 }).mgmtDone h))

/-- R140: TAKE_LOST refuses a count of 0 or above 8 RANGE. It removes the oldest entries, as many as the count or the list
holds, and returns their number and each of them in order; from a PAUSED job it brings ACTIVE with cause COMMAND and its
notice, where at least one was removed. Here with no launch to follow for want of credit. -/
def Obligations.TakeLost : Prop :=
  ∀ (s : State) (h : Header) (n : Byte), s.Serves h →
    let taken := s.lost.entries.take n.toNat
    let answer : Response :=
      { status := .good, payload := .record (byteOf taken.length :: taken.flatMap LostEntry.bytes) }
    let left : State := { s with lost := { s.lost with entries := s.lost.entries.drop n.toNat } }
    let result := exec (.takeLost h [n]) s
    (n.toNat = 0 ∨ 8 < n.toNat → result = .next (s.mgmtRefused h .range)) ∧
    (1 ≤ n.toNat → n.toNat ≤ 8 →
      (s.lost.entries = [] → result = .next (s.withMgmt h { status := .good, payload := .record [0] })) ∧
      (s.job.state ≠ .paused → s.noLaunch → result = .next (left.withMgmt h answer)) ∧
      (s.lost.entries ≠ [] → s.job.state = .paused → { s with job := { s.job with state := .active } }.noLaunch →
        result = .next (({ left with job := { s.job with state := .active, cause := .command } }.notify
          (.jobState .active .command s.job.w)).withMgmt h answer)))

/-! ## Resets and links (chapters 1 to 10) -/

/-- R142 and R160, with the values of R15, R38, R61, R74, R97, R120, R133, R154 and R172: a power-on reset and a bridge
reset bring every block to its reset values, an ONLINE or ABSENT health by each port's link, and record their kind, which
the status record reports and CLEAR_STICKY keeps; the lost block list is emptied and no notice is formed. The values stand
here one by one: the defaults of the pacing record (R133), of the policy record (R161) and of the notices (R154) among
them. What stays is the model's choice (log 10, log 11 and log 27): the links, the operation identities, the queue of
commands, the schedule of lock requests, and the frames the link holds at a bridge reset, here none; and so is the clock,
which starts again at 0 (log 2). RESET_BRIDGE is answered GOOD and stays in progress. -/
def Obligations.Resets : Prop :=
  ∀ s : State,
    let pacing : PacingRecord :=
      { mode := .yield, tickSelect := 6, periodTicks := 100, share := 64, floor := 8, weight := 16 }
    let map : MemberMap := { stripBlocks := 0, stripeCount := 0, width := 0, roles := Vector.replicate 10 .unused }
    let fresh (kind : ResetKind) : State :=
      { now := 0
        channel := { responses := [], tx := .idle, lastNotice := none, linkFrames := [], up := s.channel.up }
        table := [], slt := { locks := [], held := [] }
        engine := { ctxs := Vector.replicate 8 (.blank 0), waitList := [], owed := none, late := s.engine.late, sticky :=
          { unreadableSeen := false, missingSeen := false, retried := false, poisonWritten := false } }
        ports := s.ports.map (fun x =>
          { link := x.link, nextId := x.nextId, health := if x.link then .online else .absent, role := .unused
            bound := false, errors := 0, list := [], deferred := [] })
        job := { state := .idle, cause := .reset, target := none, armed := none, spare := none, w := 0, n := 0
                 window := [], ahead := [], settle := none, awaiting := none }
        pacing := { inForce := pacing, staged := pacing, stagedPending := false, ticks := 0, fg := 0, budget := 0
                    credit := 0, tickDue := 16 * 2 ^ 6 }
        lost := { entries := [], reservations := 0 }
        notices := { milestones := [], queue := [], mask := 0x3F, gap := 20, lost := false }
        target :=
          { current := none, waiting := [], staged := map, committed := map, lastError := none, lastReset := kind
            policy := { autoFail := true, failThreshold := 3, driveTimeout := 40, retryLimit := 1, autoStart := false
                        settleTime := 30, aheadFill := true, sweepDepth := 4 } }
        pending := s.pending }
    exec .powerOnReset s = .next (fresh .power) ∧
    (s.channel.linkFrames = [] → exec .bridgeReset s = .next (fresh .bridge)) ∧
    (∀ kind c, ((fresh kind).ctx c).state = .free) ∧
    (∃ t, exec .channelReset s = .next t ∧ t.target.lastReset = .channel) ∧
    s.statusBytes[36]? = some s.target.lastReset.code ∧
    (∀ h t, s.Serves h → exec (.clearSticky h []) s = .next t → t.target.lastReset = s.target.lastReset) ∧
    (∀ h, s.Serves h → exec (.resetBridge h []) s = .next ({ s with
      target := { s.target with current := some (h.tag.toNat, .resetting) } }.mgmtDone h))

/-- R60 with R16, R39, R75, R98, R121, R134, R143, R155 and R172: a channel reset empties the in-flight table, both lists
of responses, the held queue, the wait list, the notice queue and the management target's commands, drops the awaiting
STOP and a frame being sent, makes orphans of the forwarded operations and contexts without a request of the others, and
keeps the rest: maps, health, locks, sweep contexts, job, pacing, lost block list. The upstream link's indications change
nothing but the link, and what the transmitter may then begin. That the link's held frames are dropped is the model's
choice (log 11), and that the link comes out of the reset up or down as it was (log 27). -/
def Obligations.ChannelResetAndLink : Prop :=
  ∀ s : State,
    (∃ t, exec .channelReset s = .next t ∧
      t.channel = { responses := [], tx := .idle, lastNotice := none, linkFrames := [], up := s.channel.up } ∧
      t.table = [] ∧ t.slt = { s.slt with held := [] } ∧ t.engine.waitList = [] ∧ t.engine.sticky = s.engine.sticky ∧
      t.engine.owed = s.engine.owed ∧ t.engine.late = s.engine.late ∧
      (∀ c, (∀ tag, (s.ctx c).origin ≠ .tag tag) → t.ctx c = s.ctx c) ∧
      (∀ c tag, (s.ctx c).origin = .tag tag → t.ctx c = { s.ctx c with origin := .noRequest }) ∧
      (∀ p, t.port p = { s.port p with list := (s.port p).list.map (fun e => match e.op.orig with
        | .tag _ => { e with op := { e.op with orig := .orphan } }
        | _ => e) }) ∧
      t.job = { s.job with awaiting := none } ∧ t.pacing = s.pacing ∧ t.lost = s.lost ∧
      t.notices.queue = [] ∧ t.notices.milestones = s.notices.milestones ∧ t.notices.mask = s.notices.mask ∧
      t.notices.gap = s.notices.gap ∧
      (t.notices.lost = true ↔ s.notices.lost = true ∨ s.notices.queue ≠ [] ∨ ∃ n, s.channel.tx = .notice n) ∧
      t.target = { s.target with current := none, waiting := [], lastReset := .channel } ∧
      t.now = s.now ∧ t.pending = s.pending) ∧
    exec .upstreamLinkDown s = .next { s with channel := { s.channel with up := false } } ∧
    ({ s with channel := { s.channel with up := true } }.Rests →
      exec .upstreamLinkUp s = .next { s with channel := { s.channel with up := true } }.transmit)

/-! ## What every step keeps -/

/-- R101 and R99, kept by every step: the bound mark stands on P, whose role is SPARE, exactly while the job is bound, and
on no other port; a bound job has T and P. -/
def Obligations.MarkKept : Prop := ∀ s t : State, s.MarkInv → step s = .next t → t.MarkInv

/-- R109 and R102, kept by every step: W is at most N, N at most StripeCount, every window stripe below N, and the window
is empty in the job states a start is accepted in. With them R105, R107, R108 and R137: the window ascends and holds at most
8 stripes; each SWEEP context at work for a window entry works on its stripe alone, and every IN_FLIGHT entry has one; the
reservations are the IN_FLIGHT entries, and with them the lost block list holds at most 128. -/
def Obligations.CursorKept : Prop :=
  ∀ s t : State, s.CursorInv ∧ s.SweepInv → step s = .next t → t.CursorInv ∧ t.SweepInv

/-- R1, kept by every step: every port's role copy is its role in the committed map. -/
def Obligations.RoleCopiesKept : Prop := ∀ s t : State, s.RoleInv → step s = .next t → t.RoleInv

/-- Kept by every step, together. The bounds of the in-flight table at 64 (R40), the refusal list at 4 (R42), the response
queue at 68 (R58), the context wait list at 64 (R79), the held queue at 32 (R68), the ahead set at 64 (R110), the notice
queue at 16 (R150), the milestone table at 16 (R144), the management waiting list at 4 (R156), the foreground count at
65,535 (R128); of each port's list at 72 and its outstanding entries at 32 (R18, R20), its error count at 15 (R25), its
deferred queue at 8 (R19). The bonds of the in-flight table with the held queue, the wait list and the response queue (R40,
R41). The lock table's bound of 8 and its bonds (R62, R66): entries of different contexts that are not FREE and over no
common block, a GRANTED one with no foreground write in a list over its blocks, a DRAINING one with their number. -/
def Obligations.BoundsKept : Prop :=
  ∀ s t : State, s.QueueInv ∧ s.TableInv ∧ s.PortInv ∧ s.LockInv → step s = .next t →
    t.QueueInv ∧ t.TableInv ∧ t.PortInv ∧ t.LockInv

/-- The invariants hold right after reset. -/
def Obligations.InvariantsAtReset : Prop :=
  State.reset.MarkInv ∧ State.reset.CursorInv ∧ State.reset.SweepInv ∧ State.reset.RoleInv ∧ State.reset.QueueInv ∧
  State.reset.TableInv ∧ State.reset.PortInv ∧ State.reset.LockInv

end Statements
end

