-- ==== Sys2Proof/Laws/State.lean ====
section
/-! SUPPORT. One lemma per field per update of the state: what an update does not touch stands as it was. -/
namespace Sys2Proof.Machine

variable (s : State)

/-! ## setPort -/

@[simp] theorem State.setPort_now (p : PortId) (x : Port) : (s.setPort p x).now = s.now := rfl
@[simp] theorem State.setPort_channel (p : PortId) (x : Port) : (s.setPort p x).channel = s.channel := rfl
@[simp] theorem State.setPort_table (p : PortId) (x : Port) : (s.setPort p x).table = s.table := rfl
@[simp] theorem State.setPort_slt (p : PortId) (x : Port) : (s.setPort p x).slt = s.slt := rfl
@[simp] theorem State.setPort_engine (p : PortId) (x : Port) : (s.setPort p x).engine = s.engine := rfl
@[simp] theorem State.setPort_job (p : PortId) (x : Port) : (s.setPort p x).job = s.job := rfl
@[simp] theorem State.setPort_pacing (p : PortId) (x : Port) : (s.setPort p x).pacing = s.pacing := rfl
@[simp] theorem State.setPort_lost (p : PortId) (x : Port) : (s.setPort p x).lost = s.lost := rfl
@[simp] theorem State.setPort_notices (p : PortId) (x : Port) : (s.setPort p x).notices = s.notices := rfl
@[simp] theorem State.setPort_target (p : PortId) (x : Port) : (s.setPort p x).target = s.target := rfl
@[simp] theorem State.setPort_pending (p : PortId) (x : Port) : (s.setPort p x).pending = s.pending := rfl

/-! ## setCtx -/

@[simp] theorem State.setCtx_now (c : CtxId) (x : Context) : (s.setCtx c x).now = s.now := rfl
@[simp] theorem State.setCtx_channel (c : CtxId) (x : Context) : (s.setCtx c x).channel = s.channel := rfl
@[simp] theorem State.setCtx_table (c : CtxId) (x : Context) : (s.setCtx c x).table = s.table := rfl
@[simp] theorem State.setCtx_slt (c : CtxId) (x : Context) : (s.setCtx c x).slt = s.slt := rfl
@[simp] theorem State.setCtx_ports (c : CtxId) (x : Context) : (s.setCtx c x).ports = s.ports := rfl
@[simp] theorem State.setCtx_job (c : CtxId) (x : Context) : (s.setCtx c x).job = s.job := rfl
@[simp] theorem State.setCtx_pacing (c : CtxId) (x : Context) : (s.setCtx c x).pacing = s.pacing := rfl
@[simp] theorem State.setCtx_lost (c : CtxId) (x : Context) : (s.setCtx c x).lost = s.lost := rfl
@[simp] theorem State.setCtx_notices (c : CtxId) (x : Context) : (s.setCtx c x).notices = s.notices := rfl
@[simp] theorem State.setCtx_target (c : CtxId) (x : Context) : (s.setCtx c x).target = s.target := rfl
@[simp] theorem State.setCtx_pending (c : CtxId) (x : Context) : (s.setCtx c x).pending = s.pending := rfl

/-! ## mapPorts -/

@[simp] theorem State.mapPorts_now (f : Port → Port) : (s.mapPorts f).now = s.now := rfl
@[simp] theorem State.mapPorts_channel (f : Port → Port) : (s.mapPorts f).channel = s.channel := rfl
@[simp] theorem State.mapPorts_table (f : Port → Port) : (s.mapPorts f).table = s.table := rfl
@[simp] theorem State.mapPorts_slt (f : Port → Port) : (s.mapPorts f).slt = s.slt := rfl
@[simp] theorem State.mapPorts_engine (f : Port → Port) : (s.mapPorts f).engine = s.engine := rfl
@[simp] theorem State.mapPorts_job (f : Port → Port) : (s.mapPorts f).job = s.job := rfl
@[simp] theorem State.mapPorts_pacing (f : Port → Port) : (s.mapPorts f).pacing = s.pacing := rfl
@[simp] theorem State.mapPorts_lost (f : Port → Port) : (s.mapPorts f).lost = s.lost := rfl
@[simp] theorem State.mapPorts_notices (f : Port → Port) : (s.mapPorts f).notices = s.notices := rfl
@[simp] theorem State.mapPorts_target (f : Port → Port) : (s.mapPorts f).target = s.target := rfl
@[simp] theorem State.mapPorts_pending (f : Port → Port) : (s.mapPorts f).pending = s.pending := rfl

/-! ## setEntry -/

@[simp] theorem State.setEntry_now (tag : Nat) (f : InFlight → InFlight) : (s.setEntry tag f).now = s.now := rfl
@[simp] theorem State.setEntry_channel (tag : Nat) (f : InFlight → InFlight) : (s.setEntry tag f).channel = s.channel := rfl
@[simp] theorem State.setEntry_slt (tag : Nat) (f : InFlight → InFlight) : (s.setEntry tag f).slt = s.slt := rfl
@[simp] theorem State.setEntry_engine (tag : Nat) (f : InFlight → InFlight) : (s.setEntry tag f).engine = s.engine := rfl
@[simp] theorem State.setEntry_ports (tag : Nat) (f : InFlight → InFlight) : (s.setEntry tag f).ports = s.ports := rfl
@[simp] theorem State.setEntry_job (tag : Nat) (f : InFlight → InFlight) : (s.setEntry tag f).job = s.job := rfl
@[simp] theorem State.setEntry_pacing (tag : Nat) (f : InFlight → InFlight) : (s.setEntry tag f).pacing = s.pacing := rfl
@[simp] theorem State.setEntry_lost (tag : Nat) (f : InFlight → InFlight) : (s.setEntry tag f).lost = s.lost := rfl
@[simp] theorem State.setEntry_notices (tag : Nat) (f : InFlight → InFlight) : (s.setEntry tag f).notices = s.notices := rfl
@[simp] theorem State.setEntry_target (tag : Nat) (f : InFlight → InFlight) : (s.setEntry tag f).target = s.target := rfl
@[simp] theorem State.setEntry_pending (tag : Nat) (f : InFlight → InFlight) : (s.setEntry tag f).pending = s.pending := rfl

/-! ## addEntry -/

@[simp] theorem State.addEntry_now (e : InFlight) : (s.addEntry e).now = s.now := rfl
@[simp] theorem State.addEntry_channel (e : InFlight) : (s.addEntry e).channel = s.channel := rfl
@[simp] theorem State.addEntry_slt (e : InFlight) : (s.addEntry e).slt = s.slt := rfl
@[simp] theorem State.addEntry_engine (e : InFlight) : (s.addEntry e).engine = s.engine := rfl
@[simp] theorem State.addEntry_ports (e : InFlight) : (s.addEntry e).ports = s.ports := rfl
@[simp] theorem State.addEntry_job (e : InFlight) : (s.addEntry e).job = s.job := rfl
@[simp] theorem State.addEntry_pacing (e : InFlight) : (s.addEntry e).pacing = s.pacing := rfl
@[simp] theorem State.addEntry_lost (e : InFlight) : (s.addEntry e).lost = s.lost := rfl
@[simp] theorem State.addEntry_notices (e : InFlight) : (s.addEntry e).notices = s.notices := rfl
@[simp] theorem State.addEntry_target (e : InFlight) : (s.addEntry e).target = s.target := rfl
@[simp] theorem State.addEntry_pending (e : InFlight) : (s.addEntry e).pending = s.pending := rfl

/-! ## countForeground -/

@[simp] theorem State.countForeground_now : (s.countForeground).now = s.now := rfl
@[simp] theorem State.countForeground_channel : (s.countForeground).channel = s.channel := rfl
@[simp] theorem State.countForeground_table : (s.countForeground).table = s.table := rfl
@[simp] theorem State.countForeground_slt : (s.countForeground).slt = s.slt := rfl
@[simp] theorem State.countForeground_engine : (s.countForeground).engine = s.engine := rfl
@[simp] theorem State.countForeground_ports : (s.countForeground).ports = s.ports := rfl
@[simp] theorem State.countForeground_job : (s.countForeground).job = s.job := rfl
@[simp] theorem State.countForeground_lost : (s.countForeground).lost = s.lost := rfl
@[simp] theorem State.countForeground_notices : (s.countForeground).notices = s.notices := rfl
@[simp] theorem State.countForeground_target : (s.countForeground).target = s.target := rfl
@[simp] theorem State.countForeground_pending : (s.countForeground).pending = s.pending := rfl

/-! ## advanceTo -/

@[simp] theorem State.advanceTo_channel (t : Nat) : (s.advanceTo t).channel = s.channel := rfl
@[simp] theorem State.advanceTo_table (t : Nat) : (s.advanceTo t).table = s.table := rfl
@[simp] theorem State.advanceTo_slt (t : Nat) : (s.advanceTo t).slt = s.slt := rfl
@[simp] theorem State.advanceTo_engine (t : Nat) : (s.advanceTo t).engine = s.engine := rfl
@[simp] theorem State.advanceTo_ports (t : Nat) : (s.advanceTo t).ports = s.ports := rfl
@[simp] theorem State.advanceTo_job (t : Nat) : (s.advanceTo t).job = s.job := rfl
@[simp] theorem State.advanceTo_pacing (t : Nat) : (s.advanceTo t).pacing = s.pacing := rfl
@[simp] theorem State.advanceTo_lost (t : Nat) : (s.advanceTo t).lost = s.lost := rfl
@[simp] theorem State.advanceTo_notices (t : Nat) : (s.advanceTo t).notices = s.notices := rfl
@[simp] theorem State.advanceTo_target (t : Nat) : (s.advanceTo t).target = s.target := rfl
@[simp] theorem State.advanceTo_pending (t : Nat) : (s.advanceTo t).pending = s.pending := rfl

/-! ## periodEnd -/

@[simp] theorem State.periodEnd_now (t : Nat) : (s.periodEnd t).now = s.now := rfl
@[simp] theorem State.periodEnd_channel (t : Nat) : (s.periodEnd t).channel = s.channel := rfl
@[simp] theorem State.periodEnd_table (t : Nat) : (s.periodEnd t).table = s.table := rfl
@[simp] theorem State.periodEnd_slt (t : Nat) : (s.periodEnd t).slt = s.slt := rfl
@[simp] theorem State.periodEnd_engine (t : Nat) : (s.periodEnd t).engine = s.engine := rfl
@[simp] theorem State.periodEnd_ports (t : Nat) : (s.periodEnd t).ports = s.ports := rfl
@[simp] theorem State.periodEnd_job (t : Nat) : (s.periodEnd t).job = s.job := rfl
@[simp] theorem State.periodEnd_lost (t : Nat) : (s.periodEnd t).lost = s.lost := rfl
@[simp] theorem State.periodEnd_notices (t : Nat) : (s.periodEnd t).notices = s.notices := rfl
@[simp] theorem State.periodEnd_target (t : Nat) : (s.periodEnd t).target = s.target := rfl
@[simp] theorem State.periodEnd_pending (t : Nat) : (s.periodEnd t).pending = s.pending := rfl

/-! ## latch -/

@[simp] theorem State.latch_now (st : Status) : (s.latch st).now = s.now := rfl
@[simp] theorem State.latch_channel (st : Status) : (s.latch st).channel = s.channel := rfl
@[simp] theorem State.latch_table (st : Status) : (s.latch st).table = s.table := rfl
@[simp] theorem State.latch_slt (st : Status) : (s.latch st).slt = s.slt := rfl
@[simp] theorem State.latch_engine (st : Status) : (s.latch st).engine = s.engine := rfl
@[simp] theorem State.latch_ports (st : Status) : (s.latch st).ports = s.ports := rfl
@[simp] theorem State.latch_job (st : Status) : (s.latch st).job = s.job := rfl
@[simp] theorem State.latch_pacing (st : Status) : (s.latch st).pacing = s.pacing := rfl
@[simp] theorem State.latch_lost (st : Status) : (s.latch st).lost = s.lost := rfl
@[simp] theorem State.latch_notices (st : Status) : (s.latch st).notices = s.notices := rfl
@[simp] theorem State.latch_pending (st : Status) : (s.latch st).pending = s.pending := rfl

/-! ## dropWindow -/

@[simp] theorem State.dropWindow_now : (s.dropWindow).now = s.now := rfl
@[simp] theorem State.dropWindow_channel : (s.dropWindow).channel = s.channel := rfl
@[simp] theorem State.dropWindow_table : (s.dropWindow).table = s.table := rfl
@[simp] theorem State.dropWindow_slt : (s.dropWindow).slt = s.slt := rfl
@[simp] theorem State.dropWindow_engine : (s.dropWindow).engine = s.engine := rfl
@[simp] theorem State.dropWindow_ports : (s.dropWindow).ports = s.ports := rfl
@[simp] theorem State.dropWindow_pacing : (s.dropWindow).pacing = s.pacing := rfl
@[simp] theorem State.dropWindow_notices : (s.dropWindow).notices = s.notices := rfl
@[simp] theorem State.dropWindow_target : (s.dropWindow).target = s.target := rfl
@[simp] theorem State.dropWindow_pending : (s.dropWindow).pending = s.pending := rfl

/-! ## releaseReservation -/

@[simp] theorem State.releaseReservation_now : (s.releaseReservation).now = s.now := rfl
@[simp] theorem State.releaseReservation_channel : (s.releaseReservation).channel = s.channel := rfl
@[simp] theorem State.releaseReservation_table : (s.releaseReservation).table = s.table := rfl
@[simp] theorem State.releaseReservation_slt : (s.releaseReservation).slt = s.slt := rfl
@[simp] theorem State.releaseReservation_engine : (s.releaseReservation).engine = s.engine := rfl
@[simp] theorem State.releaseReservation_ports : (s.releaseReservation).ports = s.ports := rfl
@[simp] theorem State.releaseReservation_job : (s.releaseReservation).job = s.job := rfl
@[simp] theorem State.releaseReservation_pacing : (s.releaseReservation).pacing = s.pacing := rfl
@[simp] theorem State.releaseReservation_notices : (s.releaseReservation).notices = s.notices := rfl
@[simp] theorem State.releaseReservation_target : (s.releaseReservation).target = s.target := rfl
@[simp] theorem State.releaseReservation_pending : (s.releaseReservation).pending = s.pending := rfl

/-! ## setRole -/

@[simp] theorem State.setRole_now (p : PortId) (r : Role) : (s.setRole p r).now = s.now := rfl
@[simp] theorem State.setRole_channel (p : PortId) (r : Role) : (s.setRole p r).channel = s.channel := rfl
@[simp] theorem State.setRole_table (p : PortId) (r : Role) : (s.setRole p r).table = s.table := rfl
@[simp] theorem State.setRole_slt (p : PortId) (r : Role) : (s.setRole p r).slt = s.slt := rfl
@[simp] theorem State.setRole_engine (p : PortId) (r : Role) : (s.setRole p r).engine = s.engine := rfl
@[simp] theorem State.setRole_job (p : PortId) (r : Role) : (s.setRole p r).job = s.job := rfl
@[simp] theorem State.setRole_pacing (p : PortId) (r : Role) : (s.setRole p r).pacing = s.pacing := rfl
@[simp] theorem State.setRole_lost (p : PortId) (r : Role) : (s.setRole p r).lost = s.lost := rfl
@[simp] theorem State.setRole_notices (p : PortId) (r : Role) : (s.setRole p r).notices = s.notices := rfl
@[simp] theorem State.setRole_pending (p : PortId) (r : Role) : (s.setRole p r).pending = s.pending := rfl

/-! ## launch -/

@[simp] theorem State.launch_now (c : CtxId) : (s.launch c).now = s.now := rfl
@[simp] theorem State.launch_channel (c : CtxId) : (s.launch c).channel = s.channel := rfl
@[simp] theorem State.launch_table (c : CtxId) : (s.launch c).table = s.table := rfl
@[simp] theorem State.launch_slt (c : CtxId) : (s.launch c).slt = s.slt := rfl
@[simp] theorem State.launch_ports (c : CtxId) : (s.launch c).ports = s.ports := rfl
@[simp] theorem State.launch_notices (c : CtxId) : (s.launch c).notices = s.notices := rfl
@[simp] theorem State.launch_target (c : CtxId) : (s.launch c).target = s.target := rfl
@[simp] theorem State.launch_pending (c : CtxId) : (s.launch c).pending = s.pending := rfl

/-! ## What the updates write -/

@[simp] theorem State.setPort_ports (p : PortId) (x : Port) : (s.setPort p x).ports = s.ports.set p x := rfl
@[simp] theorem State.setCtx_ctxs (c : CtxId) (x : Context) :
    (s.setCtx c x).engine.ctxs = s.engine.ctxs.set c x := rfl
@[simp] theorem State.setCtx_waitList (c : CtxId) (x : Context) : (s.setCtx c x).engine.waitList = s.engine.waitList := rfl
@[simp] theorem State.setCtx_sticky (c : CtxId) (x : Context) : (s.setCtx c x).engine.sticky = s.engine.sticky := rfl
@[simp] theorem State.mapPorts_ports (f : Port → Port) : (s.mapPorts f).ports = s.ports.map f := rfl
@[simp] theorem State.setEntry_table (tag : Nat) (f : InFlight → InFlight) :
    (s.setEntry tag f).table = s.table.map (fun e => if e.tag = tag then f e else e) := rfl
@[simp] theorem State.addEntry_table (e : InFlight) : (s.addEntry e).table = s.table ++ [e] := rfl
@[simp] theorem State.advanceTo_now (t : Nat) : (s.advanceTo t).now = max s.now t := rfl
@[simp] theorem State.countForeground_fg : (s.countForeground).pacing.fg = min (s.pacing.fg + 1) Config.fgBound := rfl
@[simp] theorem State.latch_lastError (st : Status) : (s.latch st).target.lastError = some st := rfl
@[simp] theorem State.latch_current (st : Status) : (s.latch st).target.current = s.target.current := rfl
@[simp] theorem State.latch_waiting (st : Status) : (s.latch st).target.waiting = s.target.waiting := rfl
@[simp] theorem State.latch_staged (st : Status) : (s.latch st).target.staged = s.target.staged := rfl
@[simp] theorem State.latch_committed (st : Status) : (s.latch st).target.committed = s.target.committed := rfl
@[simp] theorem State.latch_policy (st : Status) : (s.latch st).target.policy = s.target.policy := rfl
@[simp] theorem State.dropWindow_window : (s.dropWindow).job.window = [] := rfl
@[simp] theorem State.dropWindow_ahead : (s.dropWindow).job.ahead = [] := rfl
@[simp] theorem State.dropWindow_state : (s.dropWindow).job.state = s.job.state := rfl
@[simp] theorem State.dropWindow_spare : (s.dropWindow).job.spare = s.job.spare := rfl
@[simp] theorem State.dropWindow_job_target : (s.dropWindow).job.target = s.job.target := rfl

/-! ## Reading ports, contexts and entries -/

theorem State.port_eq (p : PortId) : s.port p = s.ports.get p := rfl
theorem State.ctx_eq (c : CtxId) : s.ctx c = s.engine.ctxs.get c := rfl

@[simp] theorem State.port_setPort_self (p : PortId) (x : Port) : (s.setPort p x).port p = x := by
  exact Vector.getElem_set_self p.isLt

@[simp] theorem State.port_setPort_ne {p q : PortId} (h : p ≠ q) (x : Port) : (s.setPort p x).port q = s.port q := by
  exact Vector.getElem_set_ne p.isLt q.isLt (fun e => h (Fin.ext e))

theorem State.port_setPort (p q : PortId) (x : Port) : (s.setPort p x).port q = if p = q then x else s.port q := by
  by_cases h : p = q
  · subst h; simp
  · simp [h]

@[simp] theorem State.port_mapPorts (f : Port → Port) (p : PortId) : (s.mapPorts f).port p = f (s.port p) := by
  exact Vector.getElem_map f p.isLt

@[simp] theorem State.ctx_setCtx_self (c : CtxId) (x : Context) : (s.setCtx c x).ctx c = x := by
  exact Vector.getElem_set_self c.isLt

@[simp] theorem State.ctx_setCtx_ne {c d : CtxId} (h : c ≠ d) (x : Context) : (s.setCtx c x).ctx d = s.ctx d := by
  exact Vector.getElem_set_ne c.isLt d.isLt (fun e => h (Fin.ext e))

theorem State.ctx_setCtx (c d : CtxId) (x : Context) : (s.setCtx c x).ctx d = if c = d then x else s.ctx d := by
  by_cases h : c = d
  · subst h; simp
  · simp [h]

/-- Two states with the same ports have the same port p. -/
theorem State.port_congr {s t : State} (h : s.ports = t.ports) (p : PortId) : s.port p = t.port p := by
  simp [State.port, h]

/-- Two states with the same contexts have the same context c. -/
theorem State.ctx_congr {s t : State} (h : s.engine.ctxs = t.engine.ctxs) (c : CtxId) : s.ctx c = t.ctx c := by
  simp [State.ctx, h]

end Sys2Proof.Machine
end

