-- ==== Sys2Proof/Laws/Ops.lean ====
section
/-! SUPPORT. What the shared operations leave as it was, and what the transmitter and the notice queue can do. -/
namespace Sys2Proof.Machine

variable (s : State)

/-! ## transmit -/

@[simp] theorem State.transmit_now : (s.transmit).now = s.now := by
  unfold State.transmit; (repeat' split) <;> rfl
@[simp] theorem State.transmit_table : (s.transmit).table = s.table := by
  unfold State.transmit; (repeat' split) <;> rfl
@[simp] theorem State.transmit_slt : (s.transmit).slt = s.slt := by
  unfold State.transmit; (repeat' split) <;> rfl
@[simp] theorem State.transmit_engine : (s.transmit).engine = s.engine := by
  unfold State.transmit; (repeat' split) <;> rfl
@[simp] theorem State.transmit_ports : (s.transmit).ports = s.ports := by
  unfold State.transmit; (repeat' split) <;> rfl
@[simp] theorem State.transmit_job : (s.transmit).job = s.job := by
  unfold State.transmit; (repeat' split) <;> rfl
@[simp] theorem State.transmit_pacing : (s.transmit).pacing = s.pacing := by
  unfold State.transmit; (repeat' split) <;> rfl
@[simp] theorem State.transmit_lost : (s.transmit).lost = s.lost := by
  unfold State.transmit; (repeat' split) <;> rfl
@[simp] theorem State.transmit_target : (s.transmit).target = s.target := by
  unfold State.transmit; (repeat' split) <;> rfl
@[simp] theorem State.transmit_pending : (s.transmit).pending = s.pending := by
  unfold State.transmit; (repeat' split) <;> rfl
@[simp] theorem State.transmit_channel_up : (s.transmit).channel.up = s.channel.up := by
  unfold State.transmit; (repeat' split) <;> rfl
@[simp] theorem State.transmit_channel_linkFrames : (s.transmit).channel.linkFrames = s.channel.linkFrames := by
  unfold State.transmit; (repeat' split) <;> rfl
@[simp] theorem State.transmit_channel_lastNotice : (s.transmit).channel.lastNotice = s.channel.lastNotice := by
  unfold State.transmit; (repeat' split) <;> rfl
@[simp] theorem State.transmit_channel_responses : (s.transmit).channel.responses = s.channel.responses := by
  unfold State.transmit; (repeat' split) <;> rfl
@[simp] theorem State.transmit_notices_mask : (s.transmit).notices.mask = s.notices.mask := by
  unfold State.transmit; (repeat' split) <;> rfl
@[simp] theorem State.transmit_notices_gap : (s.transmit).notices.gap = s.notices.gap := by
  unfold State.transmit; (repeat' split) <;> rfl
@[simp] theorem State.transmit_notices_milestones : (s.transmit).notices.milestones = s.notices.milestones := by
  unfold State.transmit; (repeat' split) <;> rfl
@[simp] theorem State.transmit_notices_lost : (s.transmit).notices.lost = s.notices.lost := by
  unfold State.transmit; (repeat' split) <;> rfl

/-! ## queueResponse -/

@[simp] theorem State.queueResponse_now (r : QueuedResponse) : (s.queueResponse r).now = s.now := by
  simp [State.queueResponse]
@[simp] theorem State.queueResponse_table (r : QueuedResponse) : (s.queueResponse r).table = s.table := by
  simp [State.queueResponse]
@[simp] theorem State.queueResponse_slt (r : QueuedResponse) : (s.queueResponse r).slt = s.slt := by
  simp [State.queueResponse]
@[simp] theorem State.queueResponse_engine (r : QueuedResponse) : (s.queueResponse r).engine = s.engine := by
  simp [State.queueResponse]
@[simp] theorem State.queueResponse_ports (r : QueuedResponse) : (s.queueResponse r).ports = s.ports := by
  simp [State.queueResponse]
@[simp] theorem State.queueResponse_job (r : QueuedResponse) : (s.queueResponse r).job = s.job := by
  simp [State.queueResponse]
@[simp] theorem State.queueResponse_pacing (r : QueuedResponse) : (s.queueResponse r).pacing = s.pacing := by
  simp [State.queueResponse]
@[simp] theorem State.queueResponse_lost (r : QueuedResponse) : (s.queueResponse r).lost = s.lost := by
  simp [State.queueResponse]
@[simp] theorem State.queueResponse_target (r : QueuedResponse) : (s.queueResponse r).target = s.target := by
  simp [State.queueResponse]
@[simp] theorem State.queueResponse_pending (r : QueuedResponse) : (s.queueResponse r).pending = s.pending := by
  simp [State.queueResponse]
@[simp] theorem State.queueResponse_channel_up (r : QueuedResponse) : (s.queueResponse r).channel.up = s.channel.up := by
  simp [State.queueResponse]
@[simp] theorem State.queueResponse_channel_linkFrames (r : QueuedResponse) : (s.queueResponse r).channel.linkFrames = s.channel.linkFrames := by
  simp [State.queueResponse]
@[simp] theorem State.queueResponse_channel_lastNotice (r : QueuedResponse) : (s.queueResponse r).channel.lastNotice = s.channel.lastNotice := by
  simp [State.queueResponse]
@[simp] theorem State.queueResponse_notices_mask (r : QueuedResponse) : (s.queueResponse r).notices.mask = s.notices.mask := by
  simp [State.queueResponse]
@[simp] theorem State.queueResponse_notices_gap (r : QueuedResponse) : (s.queueResponse r).notices.gap = s.notices.gap := by
  simp [State.queueResponse]
@[simp] theorem State.queueResponse_notices_milestones (r : QueuedResponse) : (s.queueResponse r).notices.milestones = s.notices.milestones := by
  simp [State.queueResponse]
@[simp] theorem State.queueResponse_notices_lost (r : QueuedResponse) : (s.queueResponse r).notices.lost = s.notices.lost := by
  simp [State.queueResponse]

/-! ## answer -/

@[simp] theorem State.answer_now (tag : Nat) (r : Response) : (s.answer tag r).now = s.now := by
  unfold State.answer; split <;> simp
@[simp] theorem State.answer_slt (tag : Nat) (r : Response) : (s.answer tag r).slt = s.slt := by
  unfold State.answer; split <;> simp
@[simp] theorem State.answer_engine (tag : Nat) (r : Response) : (s.answer tag r).engine = s.engine := by
  unfold State.answer; split <;> simp
@[simp] theorem State.answer_ports (tag : Nat) (r : Response) : (s.answer tag r).ports = s.ports := by
  unfold State.answer; split <;> simp
@[simp] theorem State.answer_job (tag : Nat) (r : Response) : (s.answer tag r).job = s.job := by
  unfold State.answer; split <;> simp
@[simp] theorem State.answer_pacing (tag : Nat) (r : Response) : (s.answer tag r).pacing = s.pacing := by
  unfold State.answer; split <;> simp
@[simp] theorem State.answer_lost (tag : Nat) (r : Response) : (s.answer tag r).lost = s.lost := by
  unfold State.answer; split <;> simp
@[simp] theorem State.answer_target (tag : Nat) (r : Response) : (s.answer tag r).target = s.target := by
  unfold State.answer; split <;> simp
@[simp] theorem State.answer_pending (tag : Nat) (r : Response) : (s.answer tag r).pending = s.pending := by
  unfold State.answer; split <;> simp
@[simp] theorem State.answer_channel_up (tag : Nat) (r : Response) : (s.answer tag r).channel.up = s.channel.up := by
  unfold State.answer; split <;> simp
@[simp] theorem State.answer_channel_linkFrames (tag : Nat) (r : Response) : (s.answer tag r).channel.linkFrames = s.channel.linkFrames := by
  unfold State.answer; split <;> simp
@[simp] theorem State.answer_channel_lastNotice (tag : Nat) (r : Response) : (s.answer tag r).channel.lastNotice = s.channel.lastNotice := by
  unfold State.answer; split <;> simp
@[simp] theorem State.answer_notices_mask (tag : Nat) (r : Response) : (s.answer tag r).notices.mask = s.notices.mask := by
  unfold State.answer; split <;> simp
@[simp] theorem State.answer_notices_gap (tag : Nat) (r : Response) : (s.answer tag r).notices.gap = s.notices.gap := by
  unfold State.answer; split <;> simp
@[simp] theorem State.answer_notices_milestones (tag : Nat) (r : Response) : (s.answer tag r).notices.milestones = s.notices.milestones := by
  unfold State.answer; split <;> simp
@[simp] theorem State.answer_notices_lost (tag : Nat) (r : Response) : (s.answer tag r).notices.lost = s.notices.lost := by
  unfold State.answer; split <;> simp

/-! ## refuseFrame -/

@[simp] theorem State.refuseFrame_now (tag : Byte) (st : Status) : (s.refuseFrame tag st).now = s.now := by
  simp [State.refuseFrame]
@[simp] theorem State.refuseFrame_table (tag : Byte) (st : Status) : (s.refuseFrame tag st).table = s.table := by
  simp [State.refuseFrame]
@[simp] theorem State.refuseFrame_slt (tag : Byte) (st : Status) : (s.refuseFrame tag st).slt = s.slt := by
  simp [State.refuseFrame]
@[simp] theorem State.refuseFrame_engine (tag : Byte) (st : Status) : (s.refuseFrame tag st).engine = s.engine := by
  simp [State.refuseFrame]
@[simp] theorem State.refuseFrame_ports (tag : Byte) (st : Status) : (s.refuseFrame tag st).ports = s.ports := by
  simp [State.refuseFrame]
@[simp] theorem State.refuseFrame_job (tag : Byte) (st : Status) : (s.refuseFrame tag st).job = s.job := by
  simp [State.refuseFrame]
@[simp] theorem State.refuseFrame_pacing (tag : Byte) (st : Status) : (s.refuseFrame tag st).pacing = s.pacing := by
  simp [State.refuseFrame]
@[simp] theorem State.refuseFrame_lost (tag : Byte) (st : Status) : (s.refuseFrame tag st).lost = s.lost := by
  simp [State.refuseFrame]
@[simp] theorem State.refuseFrame_target (tag : Byte) (st : Status) : (s.refuseFrame tag st).target = s.target := by
  simp [State.refuseFrame]
@[simp] theorem State.refuseFrame_pending (tag : Byte) (st : Status) : (s.refuseFrame tag st).pending = s.pending := by
  simp [State.refuseFrame]
@[simp] theorem State.refuseFrame_channel_up (tag : Byte) (st : Status) : (s.refuseFrame tag st).channel.up = s.channel.up := by
  simp [State.refuseFrame]
@[simp] theorem State.refuseFrame_channel_linkFrames (tag : Byte) (st : Status) : (s.refuseFrame tag st).channel.linkFrames = s.channel.linkFrames := by
  simp [State.refuseFrame]
@[simp] theorem State.refuseFrame_channel_lastNotice (tag : Byte) (st : Status) : (s.refuseFrame tag st).channel.lastNotice = s.channel.lastNotice := by
  simp [State.refuseFrame]
@[simp] theorem State.refuseFrame_notices_mask (tag : Byte) (st : Status) : (s.refuseFrame tag st).notices.mask = s.notices.mask := by
  simp [State.refuseFrame]
@[simp] theorem State.refuseFrame_notices_gap (tag : Byte) (st : Status) : (s.refuseFrame tag st).notices.gap = s.notices.gap := by
  simp [State.refuseFrame]
@[simp] theorem State.refuseFrame_notices_milestones (tag : Byte) (st : Status) : (s.refuseFrame tag st).notices.milestones = s.notices.milestones := by
  simp [State.refuseFrame]

/-! ## notify -/

@[simp] theorem State.notify_now (n : Notice) : (s.notify n).now = s.now := by
  unfold State.notify; split <;> simp
@[simp] theorem State.notify_table (n : Notice) : (s.notify n).table = s.table := by
  unfold State.notify; split <;> simp
@[simp] theorem State.notify_slt (n : Notice) : (s.notify n).slt = s.slt := by
  unfold State.notify; split <;> simp
@[simp] theorem State.notify_engine (n : Notice) : (s.notify n).engine = s.engine := by
  unfold State.notify; split <;> simp
@[simp] theorem State.notify_ports (n : Notice) : (s.notify n).ports = s.ports := by
  unfold State.notify; split <;> simp
@[simp] theorem State.notify_job (n : Notice) : (s.notify n).job = s.job := by
  unfold State.notify; split <;> simp
@[simp] theorem State.notify_pacing (n : Notice) : (s.notify n).pacing = s.pacing := by
  unfold State.notify; split <;> simp
@[simp] theorem State.notify_lost (n : Notice) : (s.notify n).lost = s.lost := by
  unfold State.notify; split <;> simp
@[simp] theorem State.notify_target (n : Notice) : (s.notify n).target = s.target := by
  unfold State.notify; split <;> simp
@[simp] theorem State.notify_pending (n : Notice) : (s.notify n).pending = s.pending := by
  unfold State.notify; split <;> simp
@[simp] theorem State.notify_channel_up (n : Notice) : (s.notify n).channel.up = s.channel.up := by
  unfold State.notify; split <;> simp
@[simp] theorem State.notify_channel_linkFrames (n : Notice) : (s.notify n).channel.linkFrames = s.channel.linkFrames := by
  unfold State.notify; split <;> simp
@[simp] theorem State.notify_channel_lastNotice (n : Notice) : (s.notify n).channel.lastNotice = s.channel.lastNotice := by
  unfold State.notify; split <;> simp
@[simp] theorem State.notify_channel_responses (n : Notice) : (s.notify n).channel.responses = s.channel.responses := by
  unfold State.notify; split <;> simp
@[simp] theorem State.notify_notices_mask (n : Notice) : (s.notify n).notices.mask = s.notices.mask := by
  unfold State.notify; split <;> simp
@[simp] theorem State.notify_notices_gap (n : Notice) : (s.notify n).notices.gap = s.notices.gap := by
  unfold State.notify; split <;> simp
@[simp] theorem State.notify_notices_milestones (n : Notice) : (s.notify n).notices.milestones = s.notices.milestones := by
  unfold State.notify; split <;> simp

/-! ## jobTo -/

@[simp] theorem State.jobTo_now (st : JobState) (cause : JobCause) : (s.jobTo st cause).now = s.now := by
  unfold State.jobTo; split <;> simp
@[simp] theorem State.jobTo_table (st : JobState) (cause : JobCause) : (s.jobTo st cause).table = s.table := by
  unfold State.jobTo; split <;> simp
@[simp] theorem State.jobTo_slt (st : JobState) (cause : JobCause) : (s.jobTo st cause).slt = s.slt := by
  unfold State.jobTo; split <;> simp
@[simp] theorem State.jobTo_engine (st : JobState) (cause : JobCause) : (s.jobTo st cause).engine = s.engine := by
  unfold State.jobTo; split <;> simp
@[simp] theorem State.jobTo_ports (st : JobState) (cause : JobCause) : (s.jobTo st cause).ports = s.ports := by
  unfold State.jobTo; split <;> simp
@[simp] theorem State.jobTo_pacing (st : JobState) (cause : JobCause) : (s.jobTo st cause).pacing = s.pacing := by
  unfold State.jobTo; split <;> simp
@[simp] theorem State.jobTo_lost (st : JobState) (cause : JobCause) : (s.jobTo st cause).lost = s.lost := by
  unfold State.jobTo; split <;> simp
@[simp] theorem State.jobTo_target (st : JobState) (cause : JobCause) : (s.jobTo st cause).target = s.target := by
  unfold State.jobTo; split <;> simp
@[simp] theorem State.jobTo_pending (st : JobState) (cause : JobCause) : (s.jobTo st cause).pending = s.pending := by
  unfold State.jobTo; split <;> simp
@[simp] theorem State.jobTo_channel_up (st : JobState) (cause : JobCause) : (s.jobTo st cause).channel.up = s.channel.up := by
  unfold State.jobTo; split <;> simp
@[simp] theorem State.jobTo_channel_linkFrames (st : JobState) (cause : JobCause) : (s.jobTo st cause).channel.linkFrames = s.channel.linkFrames := by
  unfold State.jobTo; split <;> simp
@[simp] theorem State.jobTo_channel_lastNotice (st : JobState) (cause : JobCause) : (s.jobTo st cause).channel.lastNotice = s.channel.lastNotice := by
  unfold State.jobTo; split <;> simp
@[simp] theorem State.jobTo_channel_responses (st : JobState) (cause : JobCause) : (s.jobTo st cause).channel.responses = s.channel.responses := by
  unfold State.jobTo; split <;> simp
@[simp] theorem State.jobTo_notices_mask (st : JobState) (cause : JobCause) : (s.jobTo st cause).notices.mask = s.notices.mask := by
  unfold State.jobTo; split <;> simp
@[simp] theorem State.jobTo_notices_gap (st : JobState) (cause : JobCause) : (s.jobTo st cause).notices.gap = s.notices.gap := by
  unfold State.jobTo; split <;> simp
@[simp] theorem State.jobTo_notices_milestones (st : JobState) (cause : JobCause) : (s.jobTo st cause).notices.milestones = s.notices.milestones := by
  unfold State.jobTo; split <;> simp

/-! ## jobIdle -/

@[simp] theorem State.jobIdle_now (cause : JobCause) : (s.jobIdle cause).now = s.now := by
  simp [State.jobIdle]
@[simp] theorem State.jobIdle_table (cause : JobCause) : (s.jobIdle cause).table = s.table := by
  simp [State.jobIdle]
@[simp] theorem State.jobIdle_slt (cause : JobCause) : (s.jobIdle cause).slt = s.slt := by
  simp [State.jobIdle]
@[simp] theorem State.jobIdle_engine (cause : JobCause) : (s.jobIdle cause).engine = s.engine := by
  simp [State.jobIdle]
@[simp] theorem State.jobIdle_ports (cause : JobCause) : (s.jobIdle cause).ports = s.ports := by
  simp [State.jobIdle]
@[simp] theorem State.jobIdle_pacing (cause : JobCause) : (s.jobIdle cause).pacing = s.pacing := by
  simp [State.jobIdle]
@[simp] theorem State.jobIdle_lost (cause : JobCause) : (s.jobIdle cause).lost = s.lost := by
  simp [State.jobIdle]
@[simp] theorem State.jobIdle_target (cause : JobCause) : (s.jobIdle cause).target = s.target := by
  simp [State.jobIdle]
@[simp] theorem State.jobIdle_pending (cause : JobCause) : (s.jobIdle cause).pending = s.pending := by
  simp [State.jobIdle]
@[simp] theorem State.jobIdle_channel_up (cause : JobCause) : (s.jobIdle cause).channel.up = s.channel.up := by
  simp [State.jobIdle]
@[simp] theorem State.jobIdle_channel_linkFrames (cause : JobCause) : (s.jobIdle cause).channel.linkFrames = s.channel.linkFrames := by
  simp [State.jobIdle]
@[simp] theorem State.jobIdle_channel_lastNotice (cause : JobCause) : (s.jobIdle cause).channel.lastNotice = s.channel.lastNotice := by
  simp [State.jobIdle]
@[simp] theorem State.jobIdle_channel_responses (cause : JobCause) : (s.jobIdle cause).channel.responses = s.channel.responses := by
  simp [State.jobIdle]
@[simp] theorem State.jobIdle_notices_mask (cause : JobCause) : (s.jobIdle cause).notices.mask = s.notices.mask := by
  simp [State.jobIdle]
@[simp] theorem State.jobIdle_notices_gap (cause : JobCause) : (s.jobIdle cause).notices.gap = s.notices.gap := by
  simp [State.jobIdle]
@[simp] theorem State.jobIdle_notices_milestones (cause : JobCause) : (s.jobIdle cause).notices.milestones = s.notices.milestones := by
  simp [State.jobIdle]

/-! ## answerStop -/

@[simp] theorem State.answerStop_now (st : Status) : (s.answerStop st).now = s.now := by
  unfold State.answerStop; split <;> (try split) <;> simp
@[simp] theorem State.answerStop_slt (st : Status) : (s.answerStop st).slt = s.slt := by
  unfold State.answerStop; split <;> (try split) <;> simp
@[simp] theorem State.answerStop_engine (st : Status) : (s.answerStop st).engine = s.engine := by
  unfold State.answerStop; split <;> (try split) <;> simp
@[simp] theorem State.answerStop_ports (st : Status) : (s.answerStop st).ports = s.ports := by
  unfold State.answerStop; split <;> (try split) <;> simp
@[simp] theorem State.answerStop_pacing (st : Status) : (s.answerStop st).pacing = s.pacing := by
  unfold State.answerStop; split <;> (try split) <;> simp
@[simp] theorem State.answerStop_lost (st : Status) : (s.answerStop st).lost = s.lost := by
  unfold State.answerStop; split <;> (try split) <;> simp
@[simp] theorem State.answerStop_pending (st : Status) : (s.answerStop st).pending = s.pending := by
  unfold State.answerStop; split <;> (try split) <;> simp
@[simp] theorem State.answerStop_channel_up (st : Status) : (s.answerStop st).channel.up = s.channel.up := by
  unfold State.answerStop; split <;> (try split) <;> simp
@[simp] theorem State.answerStop_channel_linkFrames (st : Status) : (s.answerStop st).channel.linkFrames = s.channel.linkFrames := by
  unfold State.answerStop; split <;> (try split) <;> simp
@[simp] theorem State.answerStop_channel_lastNotice (st : Status) : (s.answerStop st).channel.lastNotice = s.channel.lastNotice := by
  unfold State.answerStop; split <;> (try split) <;> simp
@[simp] theorem State.answerStop_notices_mask (st : Status) : (s.answerStop st).notices.mask = s.notices.mask := by
  unfold State.answerStop; split <;> (try split) <;> simp
@[simp] theorem State.answerStop_notices_gap (st : Status) : (s.answerStop st).notices.gap = s.notices.gap := by
  unfold State.answerStop; split <;> (try split) <;> simp
@[simp] theorem State.answerStop_notices_milestones (st : Status) : (s.answerStop st).notices.milestones = s.notices.milestones := by
  unfold State.answerStop; split <;> (try split) <;> simp

/-! ## unbind -/

@[simp] theorem State.unbind_now : (s.unbind).now = s.now := by
  unfold State.unbind; split <;> simp
@[simp] theorem State.unbind_channel : (s.unbind).channel = s.channel := by
  unfold State.unbind; split <;> simp
@[simp] theorem State.unbind_table : (s.unbind).table = s.table := by
  unfold State.unbind; split <;> simp
@[simp] theorem State.unbind_slt : (s.unbind).slt = s.slt := by
  unfold State.unbind; split <;> simp
@[simp] theorem State.unbind_engine : (s.unbind).engine = s.engine := by
  unfold State.unbind; split <;> simp
@[simp] theorem State.unbind_job : (s.unbind).job = s.job := by
  unfold State.unbind; split <;> simp
@[simp] theorem State.unbind_pacing : (s.unbind).pacing = s.pacing := by
  unfold State.unbind; split <;> simp
@[simp] theorem State.unbind_lost : (s.unbind).lost = s.lost := by
  unfold State.unbind; split <;> simp
@[simp] theorem State.unbind_notices : (s.unbind).notices = s.notices := by
  unfold State.unbind; split <;> simp
@[simp] theorem State.unbind_target : (s.unbind).target = s.target := by
  unfold State.unbind; split <;> simp
@[simp] theorem State.unbind_pending : (s.unbind).pending = s.pending := by
  unfold State.unbind; split <;> simp

/-! ## issue -/

@[simp] theorem State.issue_now (p : PortId) : (s.issue p).now = s.now := by
  simp only [State.issue]; split <;> simp
@[simp] theorem State.issue_channel (p : PortId) : (s.issue p).channel = s.channel := by
  simp only [State.issue]; split <;> simp
@[simp] theorem State.issue_table (p : PortId) : (s.issue p).table = s.table := by
  simp only [State.issue]; split <;> simp
@[simp] theorem State.issue_slt (p : PortId) : (s.issue p).slt = s.slt := by
  simp only [State.issue]; split <;> simp
@[simp] theorem State.issue_engine (p : PortId) : (s.issue p).engine = s.engine := by
  simp only [State.issue]; split <;> simp
@[simp] theorem State.issue_job (p : PortId) : (s.issue p).job = s.job := by
  simp only [State.issue]; split <;> simp
@[simp] theorem State.issue_pacing (p : PortId) : (s.issue p).pacing = s.pacing := by
  simp only [State.issue]; split <;> simp
@[simp] theorem State.issue_lost (p : PortId) : (s.issue p).lost = s.lost := by
  simp only [State.issue]; split <;> simp
@[simp] theorem State.issue_notices (p : PortId) : (s.issue p).notices = s.notices := by
  simp only [State.issue]; split <;> simp
@[simp] theorem State.issue_target (p : PortId) : (s.issue p).target = s.target := by
  simp only [State.issue]; split <;> simp
@[simp] theorem State.issue_pending (p : PortId) : (s.issue p).pending = s.pending := by
  simp only [State.issue]; split <;> simp

/-! ## enlist -/

@[simp] theorem State.enlist_now (p : PortId) (op : DriveOp) : (s.enlist p op).now = s.now := by
  simp [State.enlist]
@[simp] theorem State.enlist_channel (p : PortId) (op : DriveOp) : (s.enlist p op).channel = s.channel := by
  simp [State.enlist]
@[simp] theorem State.enlist_table (p : PortId) (op : DriveOp) : (s.enlist p op).table = s.table := by
  simp [State.enlist]
@[simp] theorem State.enlist_slt (p : PortId) (op : DriveOp) : (s.enlist p op).slt = s.slt := by
  simp [State.enlist]
@[simp] theorem State.enlist_engine (p : PortId) (op : DriveOp) : (s.enlist p op).engine = s.engine := by
  simp [State.enlist]
@[simp] theorem State.enlist_job (p : PortId) (op : DriveOp) : (s.enlist p op).job = s.job := by
  simp [State.enlist]
@[simp] theorem State.enlist_pacing (p : PortId) (op : DriveOp) : (s.enlist p op).pacing = s.pacing := by
  simp [State.enlist]
@[simp] theorem State.enlist_lost (p : PortId) (op : DriveOp) : (s.enlist p op).lost = s.lost := by
  simp [State.enlist]
@[simp] theorem State.enlist_notices (p : PortId) (op : DriveOp) : (s.enlist p op).notices = s.notices := by
  simp [State.enlist]
@[simp] theorem State.enlist_target (p : PortId) (op : DriveOp) : (s.enlist p op).target = s.target := by
  simp [State.enlist]
@[simp] theorem State.enlist_pending (p : PortId) (op : DriveOp) : (s.enlist p op).pending = s.pending := by
  simp [State.enlist]

/-! ## What the changes of job state write -/

@[simp] theorem State.jobTo_job (st : JobState) (cause : JobCause) :
    (s.jobTo st cause).job = { s.job with state := st, cause } := by
  unfold State.jobTo; split <;> simp

@[simp] theorem State.jobIdle_job (cause : JobCause) :
    (s.jobIdle cause).job =
      { s.job with state := .idle, cause, target := none, spare := none, armed := none, settle := none } := by
  simp [State.jobIdle]

@[simp] theorem State.answerStop_job (st : Status) : (s.answerStop st).job = { s.job with awaiting := none } := by
  unfold State.answerStop
  split
  · rename_i h; simp [← h]
  · split <;> simp

@[simp] theorem State.answerStop_committed (st : Status) :
    (s.answerStop st).target.committed = s.target.committed := by
  unfold State.answerStop; split <;> (try split) <;> simp

@[simp] theorem State.answerStop_waiting (st : Status) : (s.answerStop st).target.waiting = s.target.waiting := by
  unfold State.answerStop; split <;> (try split) <;> simp

/-! ## The transmitter -/

/-- The transmitter's choice with the link up (R59): a busy transmitter goes on, a free one begins the oldest response,
else the head notice once the gap has elapsed, else waits. -/
theorem State.transmit_cases (hup : s.channel.up = true) :
    (s.channel.tx ≠ .idle ∧ s.transmit = s) ∨
    (s.channel.tx = .idle ∧ s.channel.responses ≠ [] ∧
      s.transmit = { s with channel := { s.channel with tx := .response } }) ∨
    (s.channel.tx = .idle ∧ s.channel.responses = [] ∧ s.gapElapsed = true ∧ ∃ n rest, s.notices.queue = n :: rest ∧
      s.transmit =
        { s with channel := { s.channel with tx := .notice n }, notices := { s.notices with queue := rest } }) ∨
    (s.txRests ∧ s.transmit = s) := by
  by_cases htx : s.channel.tx = .idle
  · by_cases hr : s.channel.responses = []
    · cases hq : s.notices.queue with
      | nil => exact .inr (.inr (.inr ⟨fun _ => ⟨hr, .inl hq⟩, by simp [State.transmit, hr, hq]⟩))
      | cons n rest =>
        cases hg : s.gapElapsed with
        | true =>
          exact .inr (.inr (.inl ⟨htx, hr, rfl, n, rest, rfl, by simp [State.transmit, htx, hup, hr, hq, hg]⟩))
        | false => exact .inr (.inr (.inr ⟨fun _ => ⟨hr, .inr hg⟩, by simp [State.transmit, hr, hq, hg]⟩))
    · exact .inr (.inl ⟨htx, hr, by simp [State.transmit, htx, hup, hr]⟩)
  · exact .inl ⟨htx, by simp [State.transmit, htx]⟩

/-- A transmitter that rests begins nothing. -/
theorem State.transmit_of_rests (h : s.txRests) : s.transmit = s := by
  unfold State.transmit
  split
  · rename_i hi
    rcases h hi.1 with ⟨hr, hq | hg⟩
    · simp [hr, hq]
    · cases hq : s.notices.queue <;> simp [hr, hg]
  · rfl

/-- After its choice the transmitter has nothing it may begin. -/
theorem State.txRests_transmit (hup : s.channel.up = true) : s.transmit.txRests := by
  rcases s.transmit_cases hup with ⟨h, e⟩ | ⟨_, _, e⟩ | ⟨_, _, _, n, rest, _, e⟩ | ⟨h, e⟩
  · rw [e]; exact fun hi => absurd hi h
  · rw [e]; exact fun hi => by simp at hi
  · rw [e]; exact fun hi => by simp at hi
  · rw [e]; exact h

/-- A second choice of the transmitter changes nothing. -/
@[simp] theorem State.transmit_transmit : s.transmit.transmit = s.transmit := by
  by_cases hup : s.channel.up = true
  · exact s.transmit.transmit_of_rests (s.txRests_transmit hup)
  · have : s.transmit = s := by simp [State.transmit, hup]
    simp [this]

/-- With the link up, a response joins the queue and a free transmitter begins one (R58, R59). -/
theorem State.queueResponse_up (hup : s.channel.up = true) (r : QueuedResponse) :
    s.queueResponse r = { s with channel := { s.channel with
      responses := s.channel.responses ++ [r], tx := s.channel.tx.busy } } := by
  cases h : s.channel.tx <;> simp [State.queueResponse, State.transmit, h, hup, Transmitter.busy]

/-! ## The notice queue -/

/-- An offer to the notice queue never leaves it longer than sixteen (R150, R151). -/
theorem offerNotice_length (queue : List Notice) (n : Notice) (h : queue.length ≤ Config.noticeBound) :
    (offerNotice queue n).1.length ≤ Config.noticeBound := by
  unfold offerNotice
  split
  · simp; omega
  · split
    · exact h
    · split
      · rename_i hp
        have : (queue.eraseP Notice.progress).length = queue.length - 1 := by
          obtain ⟨a, ha, hpa⟩ := List.any_eq_true.mp hp
          exact List.length_eraseP_of_mem ha hpa
        have : 0 < queue.length := List.length_pos_of_mem (List.any_eq_true.mp hp).choose_spec.1
        simp only [List.length_append, List.length_singleton]
        omega
      · exact h

/-- The transmitter takes at most the head of the notice queue (R153). -/
theorem State.transmit_queue_length : s.transmit.notices.queue.length ≤ s.notices.queue.length := by
  unfold State.transmit
  (repeat' split) <;> simp_all

/-- The notice queue keeps its bound whatever notice is formed (R150). -/
theorem State.notify_queue_length (n : Notice) (h : s.notices.queue.length ≤ Config.noticeBound) :
    (s.notify n).notices.queue.length ≤ Config.noticeBound := by
  unfold State.notify
  split
  · exact Nat.le_trans (State.transmit_queue_length _) (offerNotice_length _ n h)
  · exact h

end Sys2Proof.Machine
end

