-- ==== Sys2Proof/Laws/Run.lean ====
section
/-! SUPPORT. How an agenda is worked off, when a step is at its end, and what every step keeps once every internal
effect keeps it. -/
namespace Sys2Proof.Machine

/-! ## Working an agenda off -/

@[simp] theorem run_nil (n : Nat) (s : State) : run n [] s = some s := by cases n <;> rfl

theorem run_cons {n : Nat} (h : 0 < n) (w : Work) (ws : List Work) (s : State) :
    run n (w :: ws) s = run (n - 1) ((handle w s).1 ++ ws) (handle w s).2 := by
  cases n with
  | zero => omega
  | succ n => rfl

/-- One effect of an agenda, its result given. -/
theorem run_step {n : Nat} (h : 0 < n) {w : Work} {ws more : List Work} {s t : State} (hw : handle w s = (more, t)) :
    run n (w :: ws) s = run (n - 1) (more ++ ws) t := by
  rw [run_cons h, hw]

/-- What every effect keeps, a run of effects keeps. -/
theorem run_keeps {P : State → Prop} (hw : ∀ w s, P s → P (handle w s).2) :
    ∀ (n : Nat) (ws : List Work) (s t : State), P s → run n ws s = some t → P t
  | _, [], s, t, hs, h => by simp at h; exact h ▸ hs
  | 0, _ :: _, _, _, _, h => by simp [run] at h
  | n + 1, w :: ws, s, t, hs, h => run_keeps hw n _ _ t (hw w s hs) h

theorem cascade_keeps {P : State → Prop} (hw : ∀ w s, P s → P (handle w s).2) {work : List Work} {s t : State}
    (hs : P s) (h : cascade work s = .next t) : P t := by
  unfold cascade at h
  split at h
  · rename_i u hu
    cases h
    exact run_keeps hw _ _ _ _ hs hu
  · cases h

/-- With no lock request owed, a command brings its own effects and the end of the step. -/
theorem State.owedWork_none {s : State} (h : s.engine.owed = none) : s.owedWork = [] := by
  simp [State.owedWork, h]

/-- With a lock request owed, its turn comes after all the effects of the command (R63). -/
theorem State.owedWork_some {s : State} {c : CtxId} (h : s.engine.owed = some c) :
    s.owedWork = [.settle, .lockDue] := by
  simp [State.owedWork, h]

/-- A command's effects, given how the agenda ends. -/
theorem cascade_eq {work : List Work} {s t : State}
    (h : run Config.cascadeBound (work ++ s.owedWork ++ [.settle]) s = some t) : cascade work s = .next t := by
  simp only [cascade, h]

/-- A command's effects with no lock request owed, given how the agenda ends. -/
theorem cascade_eq_of_owed {work : List Work} {s t : State} (ho : s.engine.owed = none)
    (h : run Config.cascadeBound (work ++ [.settle]) s = some t) : cascade work s = .next t :=
  cascade_eq (by rw [State.owedWork_none ho, List.append_nil]; exact h)

/-! ## The end of a step -/

/-- The end of a step in a state with nothing due but the transmitter's choice. -/
theorem State.settle_eq {s : State} (hl : s.channel.linkFrames = []) (hc : s.commitReady = none)
    (hs : ∀ c, (s.ctx c).stalled = false) (ht : s.settleDue = false) : s.settle = ([], s.transmit) := by
  have : s.stalledReady = none := by
    unfold State.stalledReady
    apply List.find?_eq_none.mpr
    intro c _
    simp [hs c]
  simp [State.settle, hc, this, ht, hl]

/-- A quiet state is its own end of a step. -/
theorem State.Quiet.settle {s : State} (h : s.Quiet) : s.settle = ([], s) := by
  rw [State.settle_eq h.link h.commit h.stall h.timer, s.transmit_of_rests h.tx]

theorem State.Rests.stalledReady {s : State} (h : s.Rests) : s.stalledReady = none := by
  unfold State.stalledReady
  apply List.find?_eq_none.mpr
  intro c _
  simp [h.stall c]

/-- The last effect of an agenda in a state with nothing due but the transmitter's choice. -/
theorem run_settle {n : Nat} (h : 0 < n) {s : State} (hl : s.channel.linkFrames = []) (hc : s.commitReady = none)
    (hs : ∀ c, (s.ctx c).stalled = false) (ht : s.settleDue = false) :
    run n [.settle] s = some s.transmit := by
  have : handle .settle s = ([], s.transmit) := State.settle_eq hl hc hs ht
  rw [run_step h this]; simp

/-! ## What every step keeps -/

/-- A property that every internal effect keeps, and every change a command makes before its effects run. -/
structure KeptByCommands (P : State → Prop) : Prop where
  effect : ∀ w s, P s → P (handle w s).2
  linkFrames : ∀ s l, P s → P { s with channel := { s.channel with linkFrames := l } }
  up : ∀ s b, P s → P { s with channel := { s.channel with up := b } }
  installReport : ∀ s, P s → P s.installReport.2
  grant : ∀ s c, P s → P (s.grant c).2
  advanceTo : ∀ s n, P s → P (s.advanceTo n)
  periodEnd : ∀ s n, P s → P (s.periodEnd n)
  tickExpiry : ∀ s, P s → P s.tickExpiry.2
  bridgeReset : ∀ s, P s → P s.bridgeReset
  powerOnReset : ∀ s, P s → P s.powerOnReset
  channelReset : ∀ s, P s → P s.channelReset
  linkUp : ∀ s p, P s → P (s.linkUp p)
  linkDown : ∀ s p, P s → P (s.linkDown p).2
  driveCompletion : ∀ s p id r, P s → P (s.driveCompletion p id r).2
  driveTimeout : ∀ s p id, P s → P (s.driveTimeout p id).2
  gapElapses : ∀ s, P s → P s.gapElapses
  responseSent : ∀ s, P s → P s.responseSent
  noticeSent : ∀ s, P s → P s.noticeSent

/-- A property that every command keeps and that does not read the queue of commands. -/
structure Kept (P : State → Prop) : Prop extends KeptByCommands P where
  pending : ∀ s l, P s → P { s with pending := l }

theorem KeptByCommands.receive {P : State → Prop} (k : KeptByCommands P) {f : Frame} {s t : State} (hs : P s)
    (h : receive f s = .next t) : P t := by
  unfold Machine.receive at h
  split at h
  · exact cascade_keeps k.effect (k.linkFrames s _ hs) h
  · cases h; exact hs

/-- A property of this kind is kept by every command. -/
theorem KeptByCommands.exec {P : State → Prop} (k : KeptByCommands P) {c : Instr} {s t : State} (hs : P s) (h : exec c s = .next t) :
    P t := by
  cases c with
  | mapInstallation =>
    simp only [Machine.exec, execMapInstallation] at h
    split at h
    · exact cascade_keeps k.effect (k.installReport s hs) h
    · cases h; exact hs
  | bridgeReset => exact cascade_keeps k.effect (k.bridgeReset s hs) h
  | powerOnReset => cases h; exact k.powerOnReset s hs
  | channelReset => cases h; exact k.channelReset s hs
  | upstreamLinkDown => cases h; exact k.up s false hs
  | upstreamLinkUp => exact cascade_keeps k.effect (k.up s true hs) h
  | driveLinkUp p => exact cascade_keeps k.effect (k.linkUp s p hs) h
  | driveLinkDown p => exact cascade_keeps k.effect (k.linkDown s p hs) h
  | driveCompletion p id r =>
    simp only [Machine.exec, execDriveCompletion] at h
    split at h
    · exact cascade_keeps k.effect (k.driveCompletion s p id r hs) h
    · cases h; exact hs
  | driveTimeout p id =>
    simp only [Machine.exec, execDriveTimeout] at h
    split at h
    · exact cascade_keeps k.effect (k.driveTimeout s p id hs) h
    · cases h; exact hs
  | settleTimerExpiry =>
    simp only [Machine.exec, execSettleTimerExpiry] at h
    split at h
    · exact cascade_keeps k.effect (k.advanceTo s _ hs) h
    · cases h; exact hs
  | tick => exact cascade_keeps k.effect (k.tickExpiry s hs) h
  | periodEnd => exact cascade_keeps k.effect (k.periodEnd _ _ (k.advanceTo s _ hs)) h
  | noticeGapElapsed => exact cascade_keeps k.effect (k.gapElapses s hs) h
  | responseFrameSent =>
    simp only [Machine.exec, execResponseFrameSent] at h
    split at h
    · exact cascade_keeps k.effect (k.responseSent s hs) h
    · cases h; exact hs
  | noticeFrameSent =>
    simp only [Machine.exec, execNoticeFrameSent] at h
    split at h
    · exact cascade_keeps k.effect (k.noticeSent s hs) h
    all_goals (cases h; exact hs)
  | lockGranted c =>
    simp only [Machine.exec, execLockGranted] at h
    split at h
    · exact cascade_keeps k.effect (k.grant s c hs) h
    · cases h; exact hs
  | _ => exact k.receive hs h

/-- A property of this kind is kept by every step. -/
theorem Kept.step {P : State → Prop} (k : Kept P) {s t : State} (hs : P s) (h : step s = .next t) : P t := by
  unfold Machine.step at h
  split at h
  · cases h; exact hs
  · exact k.exec (k.pending s _ hs) h

end Sys2Proof.Machine
end

