-- ==== Sys2Proof/Laws/Frames.lean ====
section
/-! SUPPORT. What becomes of a request frame that reaches a bridge at rest: into the refusal list, or into an in-flight
entry and on to the router or the management target. -/
namespace Sys2Proof.Machine

/-- The state with these frames held by the link. -/
def State.holding (s : State) (l : List Frame) : State := { s with channel := { s.channel with linkFrames := l } }

/-- A state that holds what it held is the same state. -/
theorem State.holding_self {s : State} {l : List Frame} (h : s.channel.linkFrames = l) : s.holding l = s := by
  subst h; rfl

/-- At the end of a step of a bridge at rest, a frame the link holds is taken while the refusal list has room (R42). -/
theorem State.settle_holding {s : State} (hs : s.Rests) (hr : s.channel.refusals < Config.refusalBound) (f : Frame) :
    (s.holding [f]).settle = ((s.takeFrame f).1 ++ [.settle], (s.takeFrame f).2) := by
  have hc : (s.holding [f]).commitReady = none := hs.commit
  have hst : (s.holding [f]).stalledReady = none := hs.stalledReady
  have ht : (s.holding [f]).settleDue = false := hs.timer
  have hb : (s.holding [f]).channel.up = true ∧ (s.holding [f]).channel.refusals < Config.refusalBound := ⟨hs.up, hr⟩
  have hf : (s.holding [f]).channel.linkFrames = [f] := rfl
  have hl : (s.holding [f]).holding [] = s := State.holding_self hs.link
  simp only [State.settle, hc, hst, ht, hf]
  rw [if_neg (by simp), if_neg (by simp), if_pos hb]
  exact congrArg (fun t : State => ((t.takeFrame f).1 ++ [Work.settle], (t.takeFrame f).2)) hl

/-- A frame the link holds stays there while the link is down (R60) or the refusal list is full (R42). -/
theorem State.settle_held {s : State} (h : s.channel.up = false ∨ Config.refusalBound ≤ s.channel.refusals)
    (hc : s.commitReady = none) (hs : s.stalledReady = none) (ht : s.settleDue = false) :
    s.settle = ([], s.transmit) := by
  have hn : ¬ (s.channel.up = true ∧ s.channel.refusals < Config.refusalBound) := by
    rcases h with h | h
    · simp [h]
    · omega
  simp only [State.settle, hc, hs, ht]
  rw [if_neg (by simp), if_neg (by simp)]
  cases s.channel.linkFrames with
  | nil => rfl
  | cons f rest => simp only [if_neg hn]

/-- A frame that reaches a bridge at rest is the first effect of its step (R42). -/
theorem receive_eq {s : State} (hs : s.Rests) (hr : s.channel.refusals < Config.refusalBound) (f : Frame) {t : State}
    (h : run (Config.cascadeBound - 1) ((s.takeFrame f).1 ++ [.settle]) (s.takeFrame f).2 = some t) :
    receive f s = .next t := by
  have hset : handle .settle (s.holding [f]) = ((s.takeFrame f).1 ++ [.settle], (s.takeFrame f).2) :=
    State.settle_holding hs hr f
  have e : receive f s = cascade [] (s.holding (s.channel.linkFrames ++ [f])) := by
    rw [receive, if_pos hs.up]; rfl
  rw [e, hs.link]
  apply cascade_eq_of_owed (s := s.holding ([] ++ [f])) hs.owed
  rw [List.nil_append, List.nil_append, run_step (by decide) hset, List.append_nil]
  exact h

/-- The state a step ends in, once its effects leave nothing due but the transmitter's choice. -/
theorem run_end {n : Nat} (h : 0 < n) {s : State} (hs : s.Rests) : run n [.settle] s = some s.transmit :=
  run_settle h hs.link hs.commit hs.stall hs.timer

/-! ## Entries of the in-flight table -/

/-- No entry of the table has a tag that no entry is found for. -/
theorem State.tag_ne_of_free {s : State} {tag : Nat} (h : s.entry? tag = none) : ∀ e ∈ s.table, e.tag ≠ tag := by
  intro e he
  have := List.find?_eq_none.mp h e he
  simpa using this

/-- A change of an entry that has just joined touches no other. -/
theorem State.setEntry_addEntry {s : State} {e : InFlight} (h : s.entry? e.tag = none) (f : InFlight → InFlight) :
    (s.addEntry e).setEntry e.tag f = s.addEntry (f e) := by
  have hm : s.table.map (fun x => if x.tag = e.tag then f x else x) = s.table :=
    (List.map_congr_left (fun x hx => if_neg (s.tag_ne_of_free h x hx))).trans (List.map_id _)
  simp only [State.setEntry, State.addEntry, List.map_append, hm]
  simp

/-- An entry that has just joined is found by its tag. -/
theorem State.entry?_addEntry {s : State} {e : InFlight} (h : s.entry? e.tag = none) :
    (s.addEntry e).entry? e.tag = some e := by
  have h' : s.table.find? (fun x => x.tag == e.tag) = none := h
  simp [State.entry?, State.addEntry, List.find?_append, h']

/-- An answer to an entry that has just joined. -/
theorem State.answer_addEntry {s : State} {e : InFlight} (h : s.entry? e.tag = none) (hup : s.channel.up = true)
    (ha : e.answerable = true) (r : Response) : (s.addEntry e).answer e.tag r = s.withAnswered e r := by
  rw [State.answer, State.entry?_addEntry h, if_pos (by simpa using ha), State.setEntry_addEntry h, State.queueResponse_up _ (by simpa using hup)]
  rfl

/-! ## Management commands -/

/-- The state in which the management target has just taken a command with this header (R156). -/
def State.taking (s : State) (h : Header) : State :=
  { s.addEntry { newEntry .manage h [] with state := .issued } with
    target := { s.target with current := some (h.tag.toNat, .taken) } }

/-- A management command reaches a target that serves it (R44, R156). -/
theorem State.takeFrame_manage {s : State} {h : Header} (hs : s.Serves h) {record : List Byte} (hr : record ≠ []) :
    s.takeFrame (.manage h record) = ([.take h.tag.toNat record], s.taking h) := by
  have hne : ¬ (Config.tagBound < h.tag.toNat ∨ record = []) := by
    rintro (h1 | h1)
    · exact absurd hs.tag (by omega)
    · exact hr h1
  have hfree : s.entry? (newEntry .manage h []).tag = none := hs.free
  simp only [State.takeFrame]
  rw [if_neg hne, if_neg (by simp [hs.free])]
  have hslot : (s.addEntry (newEntry .manage h [])).resolveSlot (newEntry .manage h []).slot = .management := by
    simp [State.resolveSlot, newEntry, hs.slot]
  simp only [State.newManage, hslot]
  rw [State.setEntry_addEntry hfree]
  simp only [State.placeCommand, State.addEntry_target, hs.current]
  rfl

/-- A management command of a bridge that serves it, given how its effects end (R157). -/
theorem receive_manage {s : State} {h : Header} (hs : s.Serves h) {record : List Byte} (hr : record ≠ []) {t : State}
    (ht : run (Config.cascadeBound - 2) (((s.taking h).takeCommand h.tag.toNat record).1 ++ [.settle])
      ((s.taking h).takeCommand h.tag.toNat record).2 = some t) :
    receive (.manage h record) s = .next t := by
  apply receive_eq hs.toRests hs.room
  rw [State.takeFrame_manage hs hr, List.cons_append, List.nil_append, run_cons (by decide)]
  exact ht

/-- The answer of the command in progress ends the step of a bridge that is otherwise at rest (R156, R157). -/
theorem run_answered {n : Nat} (hn : 1 < n) {u : State} {h : Header} (hu : u.Serves h) (r : Response) :
    run n ([.nextCommand] ++ [.settle]) ((u.taking h).answer h.tag.toNat r) = some (u.withMgmt h r) := by
  have hans : (u.taking h).answer h.tag.toNat r =
      { u.withMgmt h r with target := { u.target with current := some (h.tag.toNat, .taken) } } := by
    have := State.answer_addEntry
      (s := { u with target := { u.target with current := some (h.tag.toNat, .taken) } })
      (e := { newEntry .manage h [] with state := .issued }) hu.free hu.up rfl r
    exact this
  have hcur : ({ u.target with current := none, waiting := [] } : Target) = u.target := by
    rw [← hu.current, ← hu.waiting]
  have hnext : handle .nextCommand ((u.taking h).answer h.tag.toNat r) = ([], u.withMgmt h r) := by
    rw [hans]
    simp only [handle, State.nextCommand, hu.waiting]
    exact congrArg (fun x => (([] : List Work), { u.withMgmt h r with target := x })) hcur
  rw [List.cons_append, List.nil_append, run_step (by omega) hnext, List.nil_append]
  have htx : (u.withMgmt h r).transmit = u.withMgmt h r := by
    unfold State.transmit
    rw [if_neg]
    rintro ⟨h1, -⟩
    revert h1
    show u.channel.tx.busy ≠ .idle
    cases u.channel.tx <;> simp [Transmitter.busy]
  rw [run_settle (s := u.withMgmt h r) (by omega) hu.link
    (by simp [State.commitReady, State.withMgmt, State.withAnswered, hu.current]) hu.stall hu.timer, htx]

end Sys2Proof.Machine
end

