-- ==== Sys2Proof/Laws/Offers.lean ====
section
/-! SUPPORT. What each shared operation on ports, contexts, locks and the job can do, said once. -/
namespace Sys2Proof.Machine

variable (s : State)

/-! ## Ports -/

/-- A port put back as it stands changes nothing. -/
@[simp] theorem State.setPort_self (p : PortId) : s.setPort p (s.port p) = s := by
  have : s.ports.set p (s.ports.get p) = s.ports := by
    apply Vector.ext
    intro i hi
    by_cases h : p.val = i
    · subst h; simp only [Vector.getElem_set_self]; rfl
    · simp [Vector.getElem_set_ne, h]
  simp [State.setPort, State.port, this]

/-- Two replacements of one port: the later stands. -/
@[simp] theorem State.setPort_setPort (p : PortId) (x y : Port) : (s.setPort p x).setPort p y = s.setPort p y := by
  simp [State.setPort]

/-- A context put back as it stands changes nothing. -/
@[simp] theorem State.setCtx_self (c : CtxId) : s.setCtx c (s.ctx c) = s := by
  have : s.engine.ctxs.set c (s.engine.ctxs.get c) = s.engine.ctxs := by
    apply Vector.ext
    intro i hi
    by_cases h : c.val = i
    · subst h; simp only [Vector.getElem_set_self]; rfl
    · simp [Vector.getElem_set_ne, h]
  simp [State.setCtx, State.ctx, this]

/-- Two replacements of one context: the later stands. -/
@[simp] theorem State.setCtx_setCtx (c : CtxId) (x y : Context) : (s.setCtx c x).setCtx c y = s.setCtx c y := by
  simp [State.setCtx]

/-- The issue rule keeps every operation and their order (R20). -/
theorem issueEntries_ops (deadline : Nat) (slots id : Nat) (es : List ListEntry) :
    (issueEntries deadline slots id es).1.map (·.op) = es.map (·.op) := by
  induction es generalizing slots id with
  | nil => rfl
  | cons e es ih =>
    unfold issueEntries
    cases e.issue <;> cases slots <;> simp [ih]

/-- The issue rule keeps the length of the list (R20). -/
theorem issueEntries_length (deadline : Nat) (slots id : Nat) (es : List ListEntry) :
    (issueEntries deadline slots id es).1.length = es.length := by
  have := congrArg List.length (issueEntries_ops deadline slots id es)
  simpa using this

/-- All the issue rule can do: the port's list and next identity change, and the operations stand in their order (R20). -/
theorem State.issue_spec (p : PortId) : ∃ list nextId,
    s.issue p = s.setPort p { s.port p with list, nextId } ∧ list.map (·.op) = (s.port p).list.map (·.op) := by
  unfold State.issue
  dsimp only
  split
  · exact ⟨_, _, rfl, issueEntries_ops _ _ _ _⟩
  · exact ⟨(s.port p).list, (s.port p).nextId, (s.setPort_self p).symm, rfl⟩

/-- All an admission can do: the operation joins the end of the list, and the issue rule acts (R18). -/
theorem State.enlist_spec (p : PortId) (op : DriveOp) : ∃ list nextId,
    s.enlist p op = s.setPort p { s.port p with list, nextId } ∧
      list.map (·.op) = (s.port p).list.map (·.op) ++ [op] := by
  unfold State.enlist
  dsimp only
  obtain ⟨list, nextId, h, ho⟩ :=
    (s.setPort p { s.port p with list := (s.port p).list ++ [{ op, issue := none }] }).issue_spec p
  refine ⟨list, nextId, ?_, by simpa using ho⟩
  rw [h, State.port_setPort_self, State.setPort_setPort]

/-- The router's offer (R18): MISSING off ONLINE, admitted and counted with room, else BUSY. -/
theorem State.offerForeground_cases (p : PortId) (op : DriveOp) :
    ((s.port p).health ≠ .online ∧ s.offerForeground p op = (.missing, s)) ∨
    ((s.port p).health = .online ∧ (s.port p).hasRoom = true ∧
      s.offerForeground p op = (.admitted, (s.enlist p op).countForeground)) ∨
    ((s.port p).health = .online ∧ (s.port p).hasRoom = false ∧ s.offerForeground p op = (.busy, s)) := by
  unfold State.offerForeground
  by_cases h : (s.port p).health = .online <;> cases hr : (s.port p).hasRoom <;> simp [h]

/-- A context's offer (R18, R19): MISSING off ONLINE, admitted with room, else at the end of the deferred queue unless
an operation of the context waits there. -/
theorem State.offerContext_cases (c : CtxId) (p : PortId) (op : DriveOp) :
    ((s.port p).health ≠ .online ∧ s.offerContext c p op = (.missing, s)) ∨
    ((s.port p).health = .online ∧ (s.port p).hasRoom = true ∧
      s.offerContext c p op = (.admitted, (s.enlist p op).countContext c)) ∨
    ((s.port p).health = .online ∧ (s.port p).hasRoom = false ∧ (s.port p).deferred.any (·.ofCtxs [c]) = false ∧
      s.offerContext c p op = (.deferred, s.setPort p { s.port p with deferred := (s.port p).deferred ++ [op] })) ∨
    ((s.port p).health = .online ∧ (s.port p).hasRoom = false ∧ (s.port p).deferred.any (·.ofCtxs [c]) = true ∧
      s.offerContext c p op = (.deferred, s)) := by
  unfold State.offerContext
  by_cases h : (s.port p).health = .online
  · cases hr : (s.port p).hasRoom with
    | true => simp [h]
    | false => cases hd : (s.port p).deferred.any (·.ofCtxs [c]) <;> simp [h, hd]
  · simp [h]

/-- An entry found by its identity is in the list and outstanding under it (R22). -/
theorem Port.outstanding?_some {x : Port} {id : Nat} {e : ListEntry} (h : x.outstanding? id = some e) :
    e ∈ x.list ∧ ∃ i, e.issue = some i ∧ i.id = id := by
  refine ⟨List.mem_of_find?_eq_some h, ?_⟩
  have := List.find?_some h
  cases hi : e.issue with
  | none => simp [hi] at this
  | some i => exact ⟨i, rfl, by simpa [hi] using this⟩

/-! ## Notices, the job and the target -/

/-- All that forming a notice can do (R149, R150, R151): nothing with its kind disabled; else the offer to the queue, and
the transmitter's choice. -/
theorem State.notify_cases (n : Notice) :
    (s.notices.mask.getLsbD n.maskBit = false ∧ s.notify n = s) ∨
    (s.notices.mask.getLsbD n.maskBit = true ∧ s.notify n =
      { s with notices := { s.notices with
          queue := (offerNotice s.notices.queue n).1
          lost := s.notices.lost || (offerNotice s.notices.queue n).2 } }.transmit) := by
  cases h : s.notices.mask.getLsbD n.maskBit with
  | false => exact .inl ⟨rfl, by rw [State.notify, h]; rfl⟩
  | true => exact .inr ⟨rfl, by rw [State.notify, h]; rfl⟩

/-- All a change of job state can do (R100): the state and the cause, and a notice where the state changes. -/
theorem State.jobTo_cases (st : JobState) (cause : JobCause) :
    (s.job.state = st ∧ s.jobTo st cause = { s with job := { s.job with state := st, cause } }) ∨
    (s.job.state ≠ st ∧ s.jobTo st cause =
      { s with job := { s.job with state := st, cause } }.notify (.jobState st cause s.job.w)) := by
  unfold State.jobTo
  by_cases h : s.job.state = st <;> simp [h]

/-- All the answer of an awaiting STOP can do (R103, R159). -/
theorem State.answerStop_cases (st : Status) :
    (s.job.awaiting = none ∧ s.answerStop st = s) ∨
    (∃ tag, s.job.awaiting = some tag ∧ (st = .good ∧ s.answerStop st =
      { s with job := { s.job with awaiting := none } }.answer tag (.plain .good) ∨
      st ≠ .good ∧ s.answerStop st =
        ({ s with job := { s.job with awaiting := none } }.latch st).answer tag (.plain st))) := by
  unfold State.answerStop
  cases h : s.job.awaiting with
  | none => exact .inl ⟨rfl, rfl⟩
  | some tag =>
    refine .inr ⟨tag, rfl, ?_⟩
    by_cases hs : st = .good
    · subst hs; exact .inl ⟨rfl, rfl⟩
    · exact .inr ⟨hs, by simp [hs]⟩

/-! ## Locks and contexts -/

/-- All a lock request can do (R63, R64): hand the context back at a locked stripe; else the lock, GRANTED with the READs
to follow where no foreground write stands in a list, DRAINING otherwise. -/
theorem State.lockRequest_cases (c : CtxId) :
    let x := s.ctx c
    let n := s.foregroundWrites (s.firstBlock x.stripe) (s.lastBlock x.stripe)
    let lock : Lock := { ctx := c, stripe := x.stripe, first := s.firstBlock x.stripe, last := s.lastBlock x.stripe
                         granted := decide (n = 0), drain := n }
    let t : State := { s with slt := { s.slt with locks := s.slt.locks ++ [lock] } }
    (s.locked x.stripe = true ∧ s.lockRequest c = s.handBack c) ∨
    (s.locked x.stripe = false ∧ n = 0 ∧ s.lockRequest c = ([.startReading c], t)) ∨
    (s.locked x.stripe = false ∧ n ≠ 0 ∧ s.lockRequest c = ([], t)) := by
  dsimp only
  unfold State.lockRequest
  dsimp only
  cases h : s.locked (s.ctx c).stripe with
  | true => exact .inl ⟨rfl, by simp⟩
  | false =>
    by_cases hn : s.foregroundWrites (s.firstBlock (s.ctx c).stripe) (s.lastBlock (s.ctx c).stripe) = 0
    · exact .inr (.inl ⟨rfl, hn, by simp [hn]⟩)
    · exact .inr (.inr ⟨rfl, hn, by simp [hn]⟩)

/-- All a hand-back can do (R64): the context is FREE; its request, where it has one, stands without it and joins the held
queue after the arbiter's offer. -/
theorem State.handBack_cases (c : CtxId) :
    (∃ tag, (s.ctx c).request = some tag ∧ s.handBack c = ([.arbiter, .rejoin tag, .examine],
      (s.setCtx c (.blank (s.ctx c).serial)).setEntry tag InFlight.withoutCtx)) ∨
    ((s.ctx c).request = none ∧ s.handBack c = ([.arbiter, .examine], s.setCtx c (.blank (s.ctx c).serial))) := by
  unfold State.handBack
  cases h : (s.ctx c).request with
  | none => exact .inr ⟨rfl, by simp only [h]⟩
  | some tag => exact .inl ⟨tag, rfl, by simp only [h]⟩

/-- All a lock request still owed can do (R63): nothing without one, or for a context that has gone; else the request. -/
theorem State.askLock_cases :
    (s.engine.owed = none ∧ s.askLock = ([], s)) ∨
    (∃ c, s.engine.owed = some c ∧ ¬ ((s.ctx c).state = .locking ∧ (s.ctx c).kind ≠ .sweep) ∧
      s.askLock = ([], { s with engine := { s.engine with owed := none } })) ∨
    (∃ c, s.engine.owed = some c ∧ (s.ctx c).state = .locking ∧ (s.ctx c).kind ≠ .sweep ∧
      s.askLock = ({ s with engine := { s.engine with owed := none } } : State).lockRequest c) := by
  unfold State.askLock
  cases h : s.engine.owed with
  | none => exact .inl ⟨rfl, rfl⟩
  | some c =>
    by_cases hc : (s.ctx c).state = .locking ∧ (s.ctx c).kind ≠ .sweep
    · exact .inr (.inr ⟨c, rfl, hc.1, hc.2, by simp [hc]⟩)
    · exact .inr (.inl ⟨c, rfl, hc, by simp only [if_neg hc]⟩)

/-- All the turn of an owed lock request can do (R63): nothing without one; else one step of the schedule, and the request
unless it is put off. -/
theorem State.lockDue_cases :
    (s.engine.owed = none ∧ s.lockDue = ([], s)) ∨
    (s.engine.owed.isSome = true ∧ s.engine.putsOff = true ∧
      s.lockDue = ([], { s with engine := { s.engine with late := s.engine.late.tail } })) ∨
    (s.engine.owed.isSome = true ∧ s.engine.putsOff = false ∧
      s.lockDue = ({ s with engine := { s.engine with late := s.engine.late.tail } } : State).askLock) := by
  unfold State.lockDue
  cases h : s.engine.owed with
  | none => exact .inl ⟨rfl, rfl⟩
  | some c =>
    cases hp : s.engine.putsOff with
    | true => exact .inr (.inl ⟨rfl, rfl, rfl⟩)
    | false => exact .inr (.inr ⟨rfl, rfl, rfl⟩)

/-- All a request that found its stripe locked can do: join the held queue or be answered BUSY (R64 step 2, R68), where its
entry still stands ISSUED with no port and no context; else nothing. -/
theorem State.rejoin_cases (tag : Nat) :
    s.rejoin tag = s ∨ ∃ e place, s.entry? tag = some e ∧ e.state = .issued ∧ e.place = some place ∧
      e.forward = none ∧ e.ctx = none ∧ s.rejoin tag = s.hold tag place.stripe := by
  unfold State.rejoin
  cases h : s.entry? tag with
  | none => exact .inl rfl
  | some e =>
    dsimp only
    split
    · rename_i place h1 h2 h3 h4
      exact .inr ⟨e, place, rfl, h1, h2, h3, h4, rfl⟩
    · exact .inl rfl

/-- All joining the held queue can do (R68): a place at its end behind the lowest-numbered context that blocks the stripe,
or the answer BUSY. -/
theorem State.hold_cases (tag stripe : Nat) :
    (∃ c, s.slt.held.length < Config.heldBound ∧ s.blockingLock stripe = some c ∧ s.hold tag stripe =
      ({ s with slt := { s.slt with held := s.slt.held ++ [({ tag, lock := c } : Held)] } }).setEntry tag
        (fun e => { e with state := .held, forward := none, ctx := none })) ∨
    s.hold tag stripe = s.answer tag (.plain .busy) := by
  unfold State.hold
  split
  · rename_i hl
    cases h : s.blockingLock stripe with
    | none => exact .inr rfl
    | some c => exact .inl ⟨c, hl, rfl, rfl⟩
  · exact .inr rfl

/-- All an answer can do (R41, R58): nothing to an entry that is not in ROUTING or ISSUED; else the entry is ANSWERED and
its response joins the queue. -/
theorem State.answer_cases (tag : Nat) (r : Response) :
    ((s.entry? tag).any (·.answerable) = false ∧ s.answer tag r = s) ∨
    (∃ e, s.entry? tag = some e ∧ e.answerable = true ∧ s.answer tag r =
      (s.setEntry tag (fun e =>
        { e with state := .answered, forward := none, ctx := none, data := [], response := some r })).queueResponse
          (.entry tag)) := by
  unfold State.answer
  cases h : s.entry? tag with
  | none => exact .inl ⟨rfl, by simp⟩
  | some e =>
    cases ha : e.answerable with
    | false => exact .inl ⟨ha, by simp [ha]⟩
    | true => exact .inr ⟨e, rfl, ha, by simp [ha]⟩

/-- All the report of a foreground write's departure can do (R65, R66): nothing without a DRAINING lock over its address;
the grant at the last one; else the drain count falls by 1. -/
theorem State.drainReport_cases (addr : Nat) :
    ((∀ l ∈ s.slt.locks, l.drains addr = false) ∧ s.drainReport addr = ([], s)) ∨
    (∃ l ∈ s.slt.locks, l.drains addr = true ∧ (l.drain ≤ 1 ∧ s.drainReport addr = s.grant l.ctx ∨
      1 < l.drain ∧ s.drainReport addr = ([], { s with slt := { s.slt with
        locks := s.slt.locks.map (fun k => if k.ctx = l.ctx then { k with drain := k.drain - 1 } else k) } }))) := by
  unfold State.drainReport
  cases h : s.slt.locks.find? (·.drains addr) with
  | none => exact .inl ⟨fun l hl => by simpa using List.find?_eq_none.mp h l hl, rfl⟩
  | some l =>
    refine .inr ⟨l, List.mem_of_find?_eq_some h,
      List.find?_some (p := fun k : Lock => k.drains addr) h, ?_⟩
    by_cases hd : l.drain ≤ 1
    · exact .inl ⟨hd, by simp [hd]⟩
    · exact .inr ⟨by omega, by simp [hd]⟩

/-- All a departure does (R23, R24, R25): the report of a foreground write to the lock table, then the raise of the error
count where one is due, then the delivery. -/
theorem State.departed_eq (p : PortId) (op : DriveOp) (out : Outcome) (raise : Bool) :
    s.departed p op out raise =
      ((if op.fgWrite then (s.drainReport op.addr).1 else []) ++ (if raise then [.countError p] else []) ++
        [.deliver p op out], if op.fgWrite then (s.drainReport op.addr).2 else s) := by
  unfold State.departed
  cases op.fgWrite <;> rfl

/-! ## The job -/

/-- All an examination can do (R105, R106, R112): nothing outside ACTIVE or for want of a launch condition; else pass one
stripe, complete, or launch one stripe. -/
theorem State.examine_cases :
    s.examine = ([], s) ∨
    (s.job.state = .active ∧ s.job.n < s.stripeCount ∧ s.job.n ∈ s.job.ahead ∧
      s.examine = ([.examine], s.skipCursor)) ∨
    (s.job.state = .active ∧ s.job.n = s.stripeCount ∧ s.job.window = [] ∧ s.examine = ([], s.complete)) ∨
    (∃ c, s.job.state = .active ∧ s.job.n ∉ s.job.ahead ∧ s.mayLaunch = true ∧ s.sweepCtx = some c ∧
      s.examine = (((s.launch c).lockRequest c).1 ++ [.examine], ((s.launch c).lockRequest c).2)) := by
  unfold State.examine
  by_cases ha : s.job.state = .active
  · by_cases hn : s.job.n < s.stripeCount ∧ s.job.n ∈ s.job.ahead
    · exact .inr (.inl ⟨ha, hn.1, hn.2, by simp [ha, hn]⟩)
    · by_cases hd : s.job.n = s.stripeCount ∧ s.job.window = []
      · exact .inr (.inr (.inl ⟨ha, hd.1, hd.2, by rw [if_neg (by simp [ha]), if_neg hn, if_pos hd]⟩))
      · cases hm : s.mayLaunch with
        | false => exact .inl (by rw [if_neg (by simp [ha]), if_neg hn, if_neg hd, if_neg (by simp)])
        | true =>
          have hlt : s.job.n < s.stripeCount := by
            simp only [State.mayLaunch, Bool.and_eq_true, decide_eq_true_eq] at hm
            exact hm.1.1.1.1
          rw [if_neg (by simp [ha]), if_neg hn, if_neg hd, if_pos rfl]
          cases hc : s.sweepCtx with
          | none => exact .inl rfl
          | some c => exact .inr (.inr (.inr ⟨c, ha, fun h => hn ⟨hlt, h⟩, rfl, rfl, rfl⟩))
  · exact .inl (by simp [ha])

/-- An examination that finds no launch, no passage and no end changes nothing. -/
theorem State.noLaunch.examine {s : State} (h : s.noLaunch) : s.examine = ([], s) := by
  rcases s.examine_cases with e | ⟨ha, -, hn, -⟩ | ⟨ha, hn, hw, -⟩ | ⟨c, ha, -, hm, -⟩
  · exact e
  · exact absurd hn (h ha).2.1
  · exact (h ha).2.2.elim (absurd hn) (absurd hw)
  · simp only [State.mayLaunch, Bool.and_eq_true, decide_eq_true_eq] at hm
    exact absurd hm.1.2 (by have := (h ha).1; omega)

/-- All an arming can do (R35): nothing, unless AutoStart is on, the job IDLE or DONE and one member alone FAILED; else the
job is ARMED for that member and the settle timer runs. -/
theorem State.armIfDue_cases :
    s.armIfDue = s ∨ ∃ m, s.failedMembers = [m] ∧ s.target.policy.autoStart = true ∧
      (s.job.state = .idle ∨ s.job.state = .done) ∧ s.armIfDue = ({ s with job := { s.job with
        armed := some m, settle := some (s.now + s.target.policy.settleTime * 1000000) } } : State).jobTo .armed .auto := by
  unfold State.armIfDue
  split
  · rename_i m hm
    split
    · rename_i h
      exact .inr ⟨m, hm, h.1, h.2, rfl⟩
    · exact .inl rfl
  · exact .inl rfl

end Sys2Proof.Machine
end

