-- ==== Sys2Proof/Tests/Slice0.lean ====
section
/-! SUPPORT. Tests of the model against words, tables and worked examples of the manual, and for each statement with
hypotheses a state and operands that meet them. -/
namespace Sys2Proof.Tests

open Sys2Proof Sys2Proof.Machine

/-! ## Small states -/

/-- A header. -/
def hd (tag slot count addr : Nat) : Header :=
  { tag := .ofNat 8 tag, slot := .ofNat 4 slot, count := .ofNat 8 count, addr := .ofNat 32 addr }

/-- A map of 3 members and 2 spares, 24 stripes of 8 blocks. -/
def map3 : MemberMap :=
  { stripBlocks := 8, stripeCount := 24, width := 3
    roles := #v[.member 0, .member 1, .member 2, .spare, .spare, .unused, .unused, .unused, .unused, .unused] }

/-- The array of that map with every drive linked and ONLINE. -/
def array : State :=
  { State.reset with
    ports := Vector.ofFn (fun p => { Port.afterReset true 0 with role := map3.roles.get p })
    target := { State.reset.target with staged := map3, committed := map3 } }

/-- A port's health changed. -/
def health (s : State) (p : PortId) (x : Health) : State := s.setPort p { s.port p with health := x }

/-- The array with member 2 failed. -/
def degraded : State := health array 2 .failed

/-- The degraded array with a job bound to member 2 and port 3. -/
def rebuild (state : JobState) (w n : Nat) (window : List WindowEntry) : State :=
  let s := degraded.setPort 3 { degraded.port 3 with bound := true }
  { s with job := { s.job with state, cause := .command, target := some 2, spare := some 3, w, n, window } }

/-- A port's list replaced. -/
def listed (s : State) (p : PortId) (list : List ListEntry) : State := s.setPort p { s.port p with list, nextId := 90 }

/-- An operation outstanding under this identity. -/
def sent (op : DriveOp) (id : Nat) : ListEntry := { op, issue := some { id, deadline := 2000000 } }

/-- An operation of nobody's. -/
def stray (kind : OpKind) (fgWrite : Bool) (addr : Nat) : DriveOp :=
  { kind, addr, count := 1, orig := .orphan, fgWrite, payload := .none }

/-- The place of block 9: stripe 1, offset 1. -/
def place9 : Place := { stripe := 1, offset := 1 }

/-- An issued member request at block 9 of member 1 with tag 5. -/
def issued (op : MemberOp) : InFlight :=
  { placedEntry op (hd 5 1 2 9) [] place9 with state := .issued, forward := some (1, .read) }

/-- The array with that request's operation outstanding on port 1 under identity 7. -/
def carrying (s : State) (op : MemberOp) : State :=
  listed { s with table := [issued op] } 1 [sent (forwardedOp op (hd 5 1 2 9) []) 7]

/-- A state whose member request with tag 5 is answered, and whose answer is being sent. -/
def answering (s : State) : State :=
  { s with table := [{ issued .read with state := .answered, forward := none }]
           channel := { s.channel with responses := [.entry 5], tx := .response } }

/-- A state with this many refusals in the response queue. -/
def refusing (s : State) (n : Nat) : State :=
  { s with channel := { s.channel with responses := List.replicate n (.refusal 9 .unknown), tx := .response } }

/-- A lock of context 0 on stripe 1. -/
def lock1 (granted : Bool) (drain : Nat) : Lock := { ctx := 0, stripe := 1, first := 8, last := 15, granted, drain }

/-- Context 0 on stripe 1 in this state, its lock GRANTED, with the mask of ports 0 and 1. -/
def context (s : State) (kind : CtxKind) (state : CtxState) (outstanding : List PortId) (origin : CtxOrigin) : State :=
  let x := Context.taken 1 kind 1 0 8 [0, 1] (some 3) (some 2) origin
  { s.setCtx 0 { x with state, outstanding } with slt := { s.slt with locks := [lock1 true 0] } }

/-- An operation of that context. -/
def ctxOp (kind : OpKind) : DriveOp :=
  { kind, addr := 8, count := 8, orig := .ctx 0 1, fgWrite := false, payload := .none }

/-! ## The hypotheses as conjunctions -/

theorem rests {s : State} (h : s.channel.up = true ∧ s.channel.linkFrames = [] ∧ s.commitReady = none ∧
    (∀ c, (s.ctx c).stalled = false) ∧ s.settleDue = false ∧ s.engine.owed = none) : s.Rests :=
  ⟨h.1, h.2.1, h.2.2.1, h.2.2.2.1, h.2.2.2.2.1, h.2.2.2.2.2⟩

theorem txRests {s : State} (h : s.channel.tx = .idle → s.channel.responses = [] ∧
    (s.notices.queue = [] ∨ s.gapElapsed = false)) : s.txRests := h

theorem takes {s : State} {h : Header} (r : s.Rests) (x : s.channel.refusals < Config.refusalBound ∧
    h.tag.toNat ≤ Config.tagBound ∧ s.entry? h.tag.toNat = none) : s.Takes h := ⟨r, x.1, x.2.1, x.2.2⟩

theorem serves {s : State} {h : Header} (r : s.Takes h) (x : h.slot = 15 ∧ s.target.current = none ∧
    s.target.waiting = []) : s.Serves h := ⟨r, x.1, x.2.1, x.2.2⟩

theorem tableInv {s : State} (h : (s.table.map (·.tag)).Nodup ∧ (∀ e ∈ s.table, e.tag ≤ Config.tagBound) ∧
    ((s.slt.held.map (·.tag)).Nodup ∧ ∀ h ∈ s.slt.held, ∃ e ∈ s.table, e.tag = h.tag ∧ e.state = .held) ∧
    (s.engine.waitList.Nodup ∧ ∀ tag ∈ s.engine.waitList, ∃ e ∈ s.table, e.tag = tag ∧ e.state = .waiting) ∧
    (s.channel.responses.filterMap (·.entryTag)).Nodup ∧
    ∀ tag ∈ s.channel.responses.filterMap (·.entryTag), ∃ e ∈ s.table, e.tag = tag ∧ e.state = .answered) :
    s.TableInv := ⟨h.1, h.2.1, h.2.2.1, h.2.2.2.1, h.2.2.2.2⟩

/-- The state in an outcome. -/
def next? : Result → Option State
  | .next s => some s
  | .fault _ | .refused _ => none

/-! ## Well-formed commands: one ill-formed term for each check -/

theorem test_wf_read_of_one_byte : (Instr.read (hd 1 0 1 0) 1).wellFormed = false := by decide
theorem test_wf_flush_of_one_byte : (Instr.flush (hd 1 0 1 0) 1).wellFormed = false := by decide
theorem test_wf_write_of_one_byte : (Instr.write (hd 1 0 1 0) 1 []).wellFormed = false := by decide
theorem test_wf_write_without_its_sectors : (Instr.write (hd 1 0 1 0) 4103 []).wellFormed = false := by decide
theorem test_wf_known_operation_as_unknown :
    (Instr.unknownOperationFrame 1 4 7).wellFormed = false := by decide
theorem test_wf_unknown_operation_of_one_byte :
    (Instr.unknownOperationFrame 1 5 1).wellFormed = false := by decide
theorem test_wf_known_command_as_unknown :
    (Instr.unknownCommand (hd 1 15 0 0) [0x14]).wellFormed = false := by decide
theorem test_wf_completion_of_half_a_block :
    (Instr.driveCompletion 0 0 (.good [0, 0, 0, 0])).wellFormed = false := by decide
theorem test_wf_unreadable_without_masks :
    (Instr.driveCompletion 0 0 (.unreadable (List.replicate 8 0) [])).wellFormed = false := by decide

/-! ## Worked examples and tables of the manual -/

/-- 01, section 1.6: the worked examples of mapping addresses, StripBlocks 16 and StripeCount 1,000. -/
def geometry16 (addr count : Nat) : Except Status Place :=
  { array with target := { array.target with committed :=
    { map3 with stripBlocks := 16, stripeCount := 1000 } } }.geometry addr count
theorem test_geometry_routed : geometry16 5000 4 = .ok { stripe := 312, offset := 8 } := by rfl
theorem test_geometry_last_block : geometry16 15984 16 = .ok { stripe := 999, offset := 0 } := by rfl
theorem test_geometry_span : geometry16 5004 8 = .error .span := by rfl
theorem test_geometry_range_before_span : geometry16 15996 8 = .error .range := by rfl
theorem test_geometry_count_zero : geometry16 100 0 = .error .range := by rfl

/-- 05, section 5.4: the worked example of one lane. -/
theorem test_lane_clean :
    (((Lane.empty.addGood 0x3A).addGood 0x5C).addGood 0x0F).output = 0x69 := by decide +kernel
theorem test_lane_lost :
    (((Lane.empty.addGood 0x3A).addUnreadable).addGood 0x0F).class = .lostUnreadable ∧
    (((Lane.empty.addGood 0x3A).addUnreadable).addGood 0x0F).output = 0 := by decide +kernel

/-- 08, the worked sequence: the lanes of stripe 700, and 11, section 11.6: its entry as sent. -/
theorem test_lost_entry_as_sent :
    ({ stripe := 700, target := 2, cause := .unreadable, sources := [1, 3]
       items := lostItems ((List.range 64).map (fun i =>
         if i ∈ [16, 17, 42, 43] then LaneClass.lostUnreadable else .good)) 8 } : LostEntry).bytes =
    [0xBC, 0x02, 0x00, 0x00, 0x02, 0x01, 0x0A, 0x00, 0x02, 0x02, 0x03, 0x05, 0x0C] := by decide +kernel

/-- 07, section 7.3: the table of the default record, and section 7.7: the worked case of changing load. -/
theorem test_budget_of_the_default_record :
    [0, 20, 56, 100, 65535].map PacingRecord.default.budget = [64, 44, 8, 8, 8] := by decide
theorem test_budgets_under_changing_load :
    [18, 30, 0, 12].map ({ PacingRecord.default with share := 40, weight := 24, floor := 6 } : PacingRecord).budget =
      [13, 6, 40, 22] ∧ carry 4 6 = 4 ∧ carry 15 6 = 5 := by decide

/-- 06, the worked example of retirement out of order: 502, then 500, then 501 complete. -/
theorem test_retirement_out_of_order :
    let w0 : List WindowEntry := [500, 501, 502, 504].map (fun t => { stripe := t, done := false })
    let w1 := retireWindow w0 502
    let w2 := retireWindow w1 500
    w1 = [⟨500, false⟩, ⟨501, false⟩, ⟨502, true⟩, ⟨504, false⟩] ∧
    w2 = [⟨501, false⟩, ⟨502, true⟩, ⟨504, false⟩] ∧ retireWindow w2 501 = [⟨504, false⟩] := by decide

/-- 11, sections 11.2 and 11.3: a MEDIA response, and the frames of two notices. -/
theorem test_media_response :
    responseFrame 0x15 { status := .media, badOffset := 5, mask := 8 } = [0x01, 0x15, 0x01, 0x05, 0x08] := by decide
theorem test_notice_frames :
    Notice.frame (.jobState .paused .lostFull 702) = [0x02, 0x02, 5, 3, 0xBE, 0x02, 0, 0] ∧
    Notice.frame (.memberFailed 5 2 .link) = [0x02, 0x01, 5, 2, 1] := by decide

/-- 11, section 11.1: a WRITE frame of one block keeps its first and its last byte. -/
theorem test_write_frame_of_one_block :
    decodeFrame ([0x15, 0x23, 0x01, 0x00, 0x00, 0x00, 0x00, 0xAA] ++ List.replicate 4094 0 ++ [0xBB]) =
      .write { tag := 0x15, slot := 3, count := 1, addr := 0 } 4103
        (0xAA :: List.replicate 6 0 ++ [BitVec.ofNat 4096 (0xBB * 256 ^ 511)]) := by decide +kernel

/-- 11, section 11.4: a frame of the family of management commands, and the two that read as unknown. -/
theorem test_manage_frames :
    decodeFrame [3, 0x4F, 0, 0, 0, 0, 0, 0x12, 0x3F, 0x14, 0x00] = .setNotices (hd 3 15 0 0) [0x3F, 0x14, 0] ∧
    decodeFrame [3, 0x4F, 0, 0, 0, 0, 0, 0x15] = .unknownCommand (hd 3 15 0 0) [0x15] ∧
    decodeFrame [3, 0x50, 0, 0, 0, 0, 0] = .unknownOperationFrame 3 5 7 := by decide +kernel

/-! ## One step each -/

/-- R124: after reset the first period end brings B = 64 and A = 64. -/
theorem test_period_end_after_reset :
    (next? (exec .periodEnd array)).map (fun s => (s.pacing.budget, s.pacing.credit)) = some (64, 64) := by
  decide +kernel

/-- R163: IDENTIFY answers part code 2410h and revision 3. -/
theorem test_identify :
    (next? (exec (.identify (hd 4 15 0 0) []) array)).map (fun s => s.table.map (·.response)) =
      some [some { status := .good, payload := .record [0x10, 0x24, 3] }] := by decide +kernel

/-- R29, R32: the link loss of a member queues MEMBER_FAILED, which the transmitter begins at once. -/
theorem test_link_loss_of_a_member :
    (next? (exec (.driveLinkDown 1) array)).map (fun s => (s.channel.tx, (s.port 1).health, s.arrayState)) =
      some (.notice (.memberFailed 1 1 .link), .failed, .degraded) := by decide +kernel

/-- R47, R50: a WRITE of the failed member in DEGRADED is absorbed. -/
theorem test_degraded_write_absorbed :
    (next? (exec (.write (hd 5 2 1 9) 4103 (List.replicate 8 0)) degraded)).map
      (fun s => s.table.map (fun e => e.response.map (·.status))) = some [some .good] := by decide +kernel

/-- R102: START_REBUILD of member 2 on port 3 goes ACTIVE and sets the mark. -/
theorem test_start_rebuild :
    (next? (exec (.startRebuild (hd 5 15 0 0) [2, 3]) degraded)).map
      (fun s => (s.job.state, s.job.spare, (s.port 3).bound, (s.port 4).bound)) =
      some (.active, some 3, true, false) := by decide +kernel

/-- R3, R165: a map with a width of 2 is loaded and then refused. -/
theorem test_commit_of_an_invalid_map :
    (next? (exec (.commitMap (hd 5 15 0 0) [])
      { array with target := { array.target with staged := { map3 with width := 2 } } })).map
      (fun s => s.target.lastError) = some (some .mapInvalid) := by decide +kernel

/-- R38, R171: both resets leave the links of the drives as they are. -/
theorem test_bridge_reset :
    (next? (exec .bridgeReset degraded)).map (fun s => ((s.port 2).health, (s.port 2).role, s.target.lastReset)) =
      some (.online, .unused, .bridge) := by decide +kernel

/-! ## States and operands that meet the hypotheses of the statements -/

/-! ### The step and the frames -/

theorem witness_StepTakesOneCommand :
    (next? (step { array with pending := [.tick, .tick] })).isSome = true ∧ array.pending = [] := by decide +kernel

theorem witness_DecodeOfEncode :
    (∀ i ∈ [Instr.read (hd 63 14 255 4294967295) 7, .flush (hd 0 0 0 0) 7, .takeLost (hd 1 15 0 0) [8],
      .write (hd 1 2 1 9) 4103 (List.replicate 8 1), .unknownCommand (hd 1 15 0 0) [], .frameTooShort none],
      i.wellFormed = true ∧ i.lengthFits = true ∧ (encodeFrame i).isSome = true) := by decide +kernel

theorem witness_EncodeOfDecode :
    ∀ bs ∈ [[0x07, 0x15, 0x04, 0x78, 0x56, 0x34, 0x12], [0x07, 0x4F, 0, 0, 0, 0, 0, 1], 7 :: 0x23 :: List.replicate 5 0],
      7 ≤ bs.length ∧ knownOperation (operationOf bs) = true ∧ (decodeFrame bs).lengthFits = true := by decide +kernel

theorem witness_DecodedFramesWellFormed :
    ([0x15] : List Byte).length < 2 ∧ 2 ≤ ([0x15, 0x50] : List Byte).length ∧
    knownOperation (operationOf [0x15, 0x50]) = false := by decide

theorem witness_FrameAtTheLink :
    frameOf (.identify (hd 5 15 0 0) []) = some (.manage (hd 5 15 0 0) [1]) ∧
    { array with channel := { array.channel with up := false } }.channel.up = false ∧
    (refusing array 4).Quiet ∧ Config.refusalBound ≤ (refusing array 4).channel.refusals :=
  ⟨by decide, by decide, ⟨rests (by decide +kernel), txRests (by decide)⟩, by decide⟩

/-- The array with a full refusal list, a frame held by the link, and the link down. -/
def cutOff : State :=
  let s := refusing array 4
  { s with channel := { s.channel with up := false, linkFrames := [.tooShort 1] } }

/-- R60: a frame the link holds is not taken while the link is down, though the refusal list gets room. -/
theorem witness_FrameAtTheLink_down :
    cutOff.channel.up = false ∧ Instr.responseFrameSent ≠ .upstreamLinkUp ∧ Instr.responseFrameSent ≠ .powerOnReset ∧
    Instr.responseFrameSent ≠ .channelReset ∧
    (next? (exec .responseFrameSent cutOff)).map (fun s => (s.channel.linkFrames, s.channel.refusals)) =
      some ([.tooShort 1], 3) := by decide +kernel

theorem witness_MalformedFrameRefused :
    (refusing array 3).Rests ∧ (refusing array 3).channel.refusals < Config.refusalBound ∧
    Config.tagBound < (hd 64 0 1 0).tag.toNat ∧ (8 : Nat) ≠ MemberOp.read.frameLength (hd 0 0 1 0) :=
  ⟨rests (by decide +kernel), by decide⟩

theorem witness_TagInUseRefused :
    (answering array).Rests ∧ (answering array).channel.refusals < Config.refusalBound ∧
    (hd 5 0 1 0).tag.toNat ≤ Config.tagBound ∧ ((answering array).entry? (hd 5 0 1 0).tag.toNat).isSome = true :=
  ⟨rests (by decide +kernel), by decide +kernel⟩

/-! ### Arrival -/

/-- A COMMIT_MAP in its drain, behind an issued READ. -/
def committing (s : State) : State :=
  { s with table := [issued .read, { newEntry .manage (hd 6 15 0 0) [] with state := .issued }]
           target := { s.target with current := some (6, .draining) } }

theorem witness_MemberRequestChecks :
    array.Takes (hd 63 15 1 0) ∧ array.Takes (hd 5 3 1 0) ∧ array.width ≤ (hd 5 3 1 0).slot.toNat ∧
    (committing array).Takes (hd 4 2 1 0) ∧ (committing array).committing = true ∧
    array.Takes (hd 5 2 2 191) ∧ array.committing = false ∧ (hd 5 2 2 191).slot.toNat < array.width ∧
    array.stripeCount * array.stripBlocks < 191 + 2 ∧ array.Takes (hd 5 2 2 7) ∧
    7 + 2 ≤ array.stripeCount * array.stripBlocks ∧ array.stripBlocks < 7 % array.stripBlocks + 2 :=
  ⟨takes (rests (by decide +kernel)) (by decide), takes (rests (by decide +kernel)) (by decide), by decide,
    takes (rests (by decide +kernel)) (by decide +kernel), by decide, takes (rests (by decide +kernel)) (by decide),
    by decide, by decide, by decide, takes (rests (by decide +kernel)) (by decide), by decide, by decide⟩

/-- A RESET_BRIDGE in progress with this many commands waiting. -/
def busyTarget (n : Nat) : State :=
  { array with target := { array.target with
      current := some (40, .resetting), waiting := List.replicate n (41, [1]) } }

theorem witness_ManageRequestPlaced :
    array.Takes (hd 5 2 0 0) ∧ array.txRests ∧ (hd 5 2 0 0).slot.toNat < array.width ∧
    array.Takes (hd 5 3 0 0) ∧ array.width ≤ (hd 5 3 0 0).slot.toNat ∧
    (busyTarget 3).Takes (hd 5 15 0 0) ∧ (busyTarget 3).txRests ∧ (busyTarget 3).target.current.isSome = true ∧
    (busyTarget 3).target.waiting.length < Config.waitingBound ∧
    (busyTarget 4).Takes (hd 5 15 0 0) ∧ (busyTarget 4).txRests ∧
    Config.waitingBound ≤ (busyTarget 4).target.waiting.length :=
  ⟨takes (rests (by decide +kernel)) (by decide), txRests (by decide), by decide,
    takes (rests (by decide +kernel)) (by decide), by decide, takes (rests (by decide +kernel)) (by decide),
    txRests (by decide), by decide, by decide, takes (rests (by decide +kernel)) (by decide), txRests (by decide),
    by decide⟩

/-! ### Routing -/

/-- Member 1 fails too: FRACTURED, its job HALTED with W at 10. -/
def fractured : State := health (rebuild .halted 10 10 []) 1 .failed

theorem witness_RoutingTable :
    (array.port 1).health = .online ∧ (degraded.port 2).health ≠ .online ∧ degraded.arrayState = .degraded ∧
    (health degraded 1 .failed).arrayState = .broken ∧
    (rebuild .active 10 12 []).arrayState = .rebuilding ∧ (rebuild .active 10 12 []).job.target = some 2 ∧
    (rebuild .active 10 12 []).job.spare = some 3 ∧ (9 < (rebuild .active 10 12 []).job.w) ∧
    ¬ (10 < (rebuild .active 10 12 []).job.w) ∧ (rebuild .active 10 12 []).target.policy.aheadFill = true ∧
    fractured.arrayState = .fractured ∧ fractured.job.target = some 2 ∧ fractured.job.spare = some 3 ∧
    (fractured.port 1).health ≠ .online ∧ (fractured.port 2).health ≠ .online ∧ fractured.job.w = 10 := by
  decide +kernel

/-- The strip offsets of block 9, by the geometry of the map. -/
theorem maps {s : State} {h : Header} {q : PortId} {place : Place} (g : s.geometry h.addr.toNat h.count.toNat = .ok place)
    (x : h.slot ≠ 15 ∧ h.slot.toNat < s.width ∧ s.committing = false ∧ s.portOf h.slot.toNat = some q) :
    s.Maps h q place := ⟨x.1, x.2.1, x.2.2.1, g, x.2.2.2⟩

/-- Port 1 with a list of this length. -/
def full (n : Nat) : State := listed array 1 (List.replicate n { op := stray .read false 0, issue := none })

/-- A job whose spare has lost its link; stripe 1 is spare-current. -/
def spareAbsent : State := health (rebuild .stopped 10 10 []) 3 .absent

theorem witness_RequestForwarded :
    (full 71).Takes (hd 5 1 2 9) ∧ (full 71).txRests ∧ (full 71).Maps (hd 5 1 2 9) 1 place9 ∧
    (full 71).lockHolds 1 .write 1 = false ∧ (full 71).routeOf 1 1 .write 1 = .forward 1 ∧
    ((full 71).port 1).health = .online ∧ ((full 71).port 1).deferred = [] ∧
    ((full 71).port 1).list.length < Config.listBound ∧
    (full 72).Takes (hd 5 1 2 9) ∧ (full 72).Maps (hd 5 1 2 9) 1 place9 ∧
    ¬ (((full 72).port 1).deferred = [] ∧ ((full 72).port 1).list.length < Config.listBound) ∧
    spareAbsent.Takes (hd 5 2 2 9) ∧ spareAbsent.txRests ∧ spareAbsent.Maps (hd 5 2 2 9) 2 place9 ∧
    spareAbsent.lockHolds 2 .write 1 = false ∧ spareAbsent.routeOf 2 2 .write 1 = .forward 3 ∧
    (spareAbsent.port 3).health = .absent :=
  ⟨takes (rests (by decide +kernel)) (by decide), txRests (by decide), maps (by rfl) (by decide +kernel),
    by decide +kernel, by rfl, by decide +kernel, by decide +kernel, by decide +kernel,
    takes (rests (by decide +kernel)) (by decide), maps (by rfl) (by decide +kernel), by decide +kernel,
    takes (rests (by decide +kernel)) (by decide), txRests (by decide), maps (by rfl) (by decide +kernel),
    by decide +kernel, by rfl, by decide +kernel⟩

theorem witness_RequestAnsweredAtOnce :
    degraded.Takes (hd 5 2 2 9) ∧ degraded.Maps (hd 5 2 2 9) 2 place9 ∧ degraded.lockHolds 2 .write 1 = false ∧
    degraded.routeOf 2 2 .write 1 = .absorbed ∧
    (health degraded 1 .failed).Takes (hd 5 2 2 9) ∧ (health degraded 1 .failed).Maps (hd 5 2 2 9) 2 place9 ∧
    (health degraded 1 .failed).lockHolds 2 .read 1 = false ∧
    (health degraded 1 .failed).routeOf 2 2 .read 1 = .lost :=
  ⟨takes (rests (by decide +kernel)) (by decide), maps (by rfl) (by decide +kernel), by decide +kernel, by rfl,
    takes (rests (by decide +kernel)) (by decide), maps (by rfl) (by decide +kernel), by decide +kernel, by rfl⟩

/-- Stripe 1 locked by context 0, this many requests held behind it. -/
def locked (s : State) (n : Nat) : State :=
  { s with slt := { locks := [lock1 true 0], held := List.replicate n { tag := 50, lock := 0 } } }

theorem witness_RequestHeld :
    (locked array 31).Takes (hd 5 1 2 9) ∧ (locked array 31).txRests ∧ (locked array 31).Maps (hd 5 1 2 9) 1 place9 ∧
    (locked array 31).lockHolds 1 .write 1 = true ∧ (locked array 31).slt.held.length < Config.heldBound ∧
    (locked array 32).Takes (hd 5 1 2 9) ∧ (locked array 32).txRests ∧ (locked array 32).Maps (hd 5 1 2 9) 1 place9 ∧
    (locked array 32).lockHolds 1 .write 1 = true ∧ Config.heldBound ≤ (locked array 32).slt.held.length :=
  ⟨takes (rests (by decide +kernel)) (by decide), txRests (by decide), maps (by rfl) (by decide +kernel),
    by decide +kernel, by decide, takes (rests (by decide +kernel)) (by decide), txRests (by decide),
    maps (by rfl) (by decide +kernel), by decide +kernel, by decide⟩

/-- The first contexts, this many, taken by DEGRADED requests at other stripes. -/
def pool (s : State) (n : Nat) : State :=
  (allCtxs.take n).foldl (fun t c =>
    t.setCtx c { Context.taken 1 .degraded 20 0 1 [0, 1] none none .noRequest with state := .reading }) s

theorem witness_ReadWaitsForContext :
    (pool degraded 6).Takes (hd 5 2 2 9) ∧ (pool degraded 6).txRests ∧ (pool degraded 6).Maps (hd 5 2 2 9) 2 place9 ∧
    (pool degraded 6).lockHolds 2 .read 1 = false ∧
    (pool degraded 6).routeOf 2 2 .read 1 = .reconstruct .degraded [0, 1] none none ∧
    6 ≤ (pool degraded 6).foregroundInUse ∧ (∀ c, ((pool degraded 8).ctx c).state ≠ .free) ∧
    { degraded with engine := { degraded.engine with waitList := [9] } }.engine.waitList ≠ [] :=
  ⟨takes (rests (by decide +kernel)) (by decide), txRests (by decide), maps (by rfl) (by decide +kernel),
    by decide +kernel, by rfl, by decide +kernel⟩

/-- Five contexts in use, and a foreground write to stripe 1 in the list of port 0. -/
def writing : State := listed (pool degraded 5) 0 [sent (stray .write true 15) 3]

theorem witness_ReadTakesContext :
    (pool degraded 5).Takes (hd 5 2 2 9) ∧ (pool degraded 5).txRests ∧ (pool degraded 5).Maps (hd 5 2 2 9) 2 place9 ∧
    (pool degraded 5).lockHolds 2 .read 1 = false ∧
    (pool degraded 5).routeOf 2 2 .read 1 = .reconstruct .degraded [0, 1] none none ∧
    (pool degraded 5).engine.waitList = [] ∧ (pool degraded 5).foregroundInUse < 6 ∧
    ((pool degraded 5).ctx 5).state = .free ∧ (∀ k, k < 5 → ((pool degraded 5).ctx k).state ≠ .free) ∧
    (∀ l ∈ (pool degraded 5).slt.locks, l.ctx ≠ 5) ∧ (pool degraded 5).foregroundWrites 8 15 = 0 ∧
    (∀ p ∈ ([0, 1] : List PortId), ((pool degraded 5).port p).health = .online ∧
      ((pool degraded 5).port p).hasRoom = true) ∧
    writing.Takes (hd 5 2 2 9) ∧ writing.Maps (hd 5 2 2 9) 2 place9 ∧
    writing.routeOf 2 2 .read 1 = .reconstruct .degraded [0, 1] none none ∧ writing.foregroundWrites 8 15 ≠ 0 :=
  ⟨takes (rests (by decide +kernel)) (by decide), txRests (by decide), maps (by rfl) (by decide +kernel),
    by decide +kernel, by rfl, by decide +kernel, by decide +kernel, by decide +kernel, by decide +kernel,
    by decide +kernel, by decide +kernel, by decide +kernel, takes (rests (by decide +kernel)) (by decide),
    maps (by rfl) (by decide +kernel), by rfl, by decide +kernel⟩

/-- Such an array whose schedule is this. -/
def lateAt (s : State) (late : List Bool) : State := { s with engine := { s.engine with late } }

theorem witness_ReadTakesContext_late :
    (∀ late ∈ [[], [false], [true], [true, false], [true, true]], let s := lateAt writing late
      s.Takes (hd 5 2 2 9) ∧ s.txRests ∧ s.Maps (hd 5 2 2 9) 2 place9 ∧ s.lockHolds 2 .read 1 = false ∧
      s.routeOf 2 2 .read 1 = .reconstruct .degraded [0, 1] none none ∧ s.engine.late = late ∧
      s.engine.waitList = [] ∧ s.foregroundInUse < 6 ∧ (s.ctx 5).state = .free ∧
      (∀ k, k < 5 → (s.ctx k).state ≠ .free) ∧ s.slt.locks = [] ∧ s.foregroundWrites 8 15 ≠ 0) := by
  refine fun late hl => ⟨takes (rests ?_) ?_, txRests ?_, maps ?_ ?_, ?_⟩ <;> revert late <;> decide +kernel

/-- The READ of blocks 9 and 10 that waits for context 0. -/
def asking (slot : Nat) : InFlight :=
  { placedEntry .read (hd 5 slot 2 9) [] place9 with state := .issued, ctx := some 0 }

/-- Context 0 in LOCKING on stripe 1 for that READ, its lock request owed, and the stripe locked by a launch on contexts 3
and 6 meanwhile, this many requests held behind it. -/
def owing (n : Nat) : State :=
  let s := context { degraded with table := [asking 2] } .degraded .locking [] (.tag 5)
  { s with
    engine := { s.engine with owed := some 0 }
    slt := { locks := [{ lock1 true 0 with ctx := 6 }, { lock1 true 0 with ctx := 3 }]
             held := List.replicate n { tag := 50, lock := 6 } } }

theorem witness_RequestHeld_handedBack :
    (∀ n ∈ [31, 32], let s := owing n
      ({ s with engine := { s.engine with owed := none, late := s.engine.late.tail } } : State).Rests ∧ s.txRests ∧
      s.engine.owed = some 0 ∧ s.engine.late.head? ≠ some true ∧
      (s.ctx 0).state = .locking ∧ (s.ctx 0).kind ≠ .sweep ∧ (s.ctx 0).stripe = place9.stripe ∧
      (s.ctx 0).origin = .tag (asking 2).tag ∧ s.entry? (asking 2).tag = some (asking 2) ∧ s.committing = false ∧
      s.engine.waitList = [] ∧ s.job.state ≠ .active ∧
      (∃ l ∈ s.slt.locks, l.ctx = 3 ∧ l.first ≤ s.lastBlock place9.stripe ∧ s.firstBlock place9.stripe ≤ l.last)) ∧
    (asking 2).state = .issued ∧ (asking 2).place = some place9 ∧ (asking 2).forward = none ∧
    (owing 31).slt.held.length < Config.heldBound ∧ Config.heldBound ≤ (owing 32).slt.held.length := by
  refine ⟨fun n hn => ⟨rests ?_, txRests ?_, ?_⟩, by decide⟩ <;> revert n
  case refine_2 => decide
  all_goals decide +kernel

/-- R63: a lock request still owed when START_REBUILD is accepted finds the stripe that the start has launched locked. -/
theorem test_launch_comes_before_an_owed_lock_request :
    let s := { owing 0 with slt := { locks := [], held := [] }, pacing := { degraded.pacing with credit := 3 } }
    (next? (exec (.startRebuild (hd 6 15 0 0) [2, 3, 1, 0, 0, 0]) s)).map (fun t => ((t.ctx 0).state, (t.ctx 1).kind,
      t.slt.held, t.job.n)) = some (.free, .sweep, [{ tag := 5, lock := 1 }], 2) := by decide +kernel

/-- R64: the context is FREE again, and its request is held behind the lowest-numbered context that locks the stripe. -/
theorem test_late_lock_request_is_handed_back :
    (next? (exec .upstreamLinkUp (owing 0))).map (fun s => ((s.ctx 0).state, s.slt.held, s.table.map (·.state),
      s.engine.owed)) = some (.free, [{ tag := 5, lock := 3 }], [.held], none) := by decide +kernel

/-! ### Drive ports -/

/-- A port with 31 outstanding entries and two waiting ones. -/
def crowded : State :=
  listed array 1 (List.replicate 31 (sent (stray .read false 0) 3) ++
    List.replicate 2 { op := stray .read false 1, issue := none })

theorem witness_IssueRule :
    ((health array 1 .failed).port 1).health ≠ .online ∧ (crowded.port 1).health = .online ∧
    (crowded.port 1).list.length = 33 ∧ ((crowded.port 1).list[30]?.bind (·.issue)).isSome = true ∧
    (crowded.port 1).list[31]?.bind (·.issue) = none ∧ (crowded.port 1).list[32]?.bind (·.issue) = none ∧
    (((crowded.issue 1).port 1).list[31]?.bind (·.issue)).isSome = true := by decide +kernel

theorem witness_DriveLinkUp :
    (health array 4 .absent).Quiet ∧ ((health array 4 .absent).port 4).health = .absent ∧
    ((health array 4 .absent).port 4).role = .spare :=
  ⟨⟨rests (by decide +kernel), txRests (by decide)⟩, by decide +kernel, by decide +kernel⟩

theorem witness_DriveLinkDown :
    (next? (exec (.driveLinkDown 1) array)).isSome = true ∧ array.Quiet ∧ (array.port 1).list = [] ∧
    (array.port 1).deferred = [] ∧ (array.port 1).bound = false ∧ (array.port 1).health = .online ∧
    (array.port 1).role = .member 1 ∧ array.job.state = .idle ∧ array.target.policy.autoStart = false ∧
    (array.port 4).health = .online ∧ (array.port 4).role = .spare ∧ degraded.Quiet ∧
    (degraded.port 2).health ≠ .online ∧ fractured.Quiet ∧ (fractured.port 0).health = .online ∧
    fractured.job.state = .halted :=
  ⟨by decide +kernel, ⟨rests (by decide +kernel), txRests (by decide)⟩, by decide +kernel, by decide +kernel,
    by decide +kernel, by decide +kernel, by decide +kernel, by decide, by decide, by decide +kernel, by decide +kernel,
    ⟨rests (by decide +kernel), txRests (by decide)⟩, by decide +kernel,
    ⟨rests (by decide +kernel), txRests (by decide)⟩, by decide +kernel, by decide⟩

/-- The WRITE of block 40 by member 1, and the READ of block 9 of member 2 that context 0 reconstructs. -/
def leavingWrite : InFlight :=
  { placedEntry .write (hd 5 1 1 40) [] { stripe := 5, offset := 0 } with state := .issued, forward := some (1, .write) }

def leavingRead : InFlight :=
  { placedEntry .read (hd 6 2 2 9) [] place9 with state := .issued, ctx := some 0 }

/-- On port 1 two orphans and the operation of that WRITE; deferred there, where it is so, a READ of context 0. -/
def leaving (s : State) (deferred : Bool) : State :=
  let t := context { s with table := [leavingWrite, leavingRead] } .degraded .reading [0, 1] (.tag 6)
  let write := sent { stray .write true 40 with orig := .tag 5 } 7
  t.setPort 1 { t.port 1 with
    list := [sent (stray .read false 17) 6, write, { op := stray .read false 18, issue := none }]
    deferred := if deferred then [ctxOp .read] else [] }

/-- That array after the failure of port 1 by its link. -/
def leftFailed : State :=
  let s := leaving degraded true
  (s.setPort 1 { s.port 1 with link := false, health := .failed, list := [], deferred := [] }).notify
    (.memberFailed 1 1 .link)

theorem witness_DriveLinkDown_leaving :
    (let s := leaving degraded true
     s.Quiet ∧ leftFailed.MissingAnswer (leftFailed.port 1).health [] leavingWrite .dataLost ∧
     leftFailed.MissingAnswer .failed [0] leavingRead .dataLost ∧ s.DefersFor (ctxOp .read) 0 leavingRead ∧
     s.committing = false ∧ (s.port 1).bound = false ∧ s.job.state = .idle ∧ (s.port 1).role = .member 1 ∧
     (s.port 1).health = .online ∧ s.target.policy.autoStart = false ∧ (s.port 1).list.filterMap (·.op.tag?) = [5] ∧
     (s.port 1).deferred.filterMap (·.maker) = [0] ∧ (∀ l ∈ s.slt.locks, l.drains 40 = false) ∧
     s.entry? 5 = some leavingWrite ∧ (leftFailed.port 1).health = .failed) ∧
    (let s := leaving (health array 1 .absent) false
     s.Quiet ∧ s.MissingAnswer (s.port 1).health [] leavingWrite .timeout ∧ (s.port 1).health = .absent ∧
     (s.port 1).deferred = [] ∧ s.entry? 5 = some leavingWrite) := by
  refine ⟨⟨⟨rests ?_, txRests ?_⟩, .lost { stripe := 5, offset := 0 } 1 ?_ ?_ ?_ ?_ ?_, .lost place9 2 ?_ ?_ ?_ ?_ ?_,
    ⟨?_, ?_, ?_, ?_, ?_, ?_, ?_, ?_⟩, ?_⟩, ⟨⟨rests ?_, txRests ?_⟩, .timeout ?_, ?_⟩⟩
  all_goals decide +kernel

/-- R29, R53, R85: the answers of that link-down, in the order in which the operations leave. -/
theorem test_link_down_answers_in_order :
    (next? (exec (.driveLinkDown 1) (leaving degraded true))).map (fun t => (t.channel.responses,
      t.table.map (fun e => e.response.map (·.status)), (t.ctx 0).state)) =
      some ([.entry 5, .entry 6], [some .dataLost, some .dataLost], .free) := by decide +kernel

/-- The entry of a carried request on port 1. -/
def carried (op : MemberOp) : ListEntry := sent (forwardedOp op (hd 5 1 2 9) []) 7

theorem outstanding {s : State} {p : PortId} {id : Nat} {e : ListEntry} (r : s.Rests)
    (x : (s.port p).outstanding? id = some e ∧ (s.port p).deferred = [] ∧ s.committing = false) :
    s.Outstanding p id e := ⟨r, x.1, x.2.1, x.2.2⟩

theorem carries {s : State} {p : PortId} {id : Nat} {e : ListEntry} {x : InFlight} (o : s.Outstanding p id e)
    (h : e.op.orig = .tag x.tag ∧ s.entry? x.tag = some x ∧ x.state = .issued ∧
      ∀ l ∈ s.slt.locks, l.drains e.op.addr = false) : s.Carries p id e x := ⟨o, h.1, h.2.1, h.2.2.1, h.2.2.2⟩

/-- Each operation carried by the array meets the premises of a completion. -/
theorem carrying_carries (op : MemberOp) : (carrying array op).Carries 1 7 (carried op) (issued op) :=
  carries (outstanding (rests (by cases op <;> decide +kernel)) (by cases op <;> decide +kernel))
    (by cases op <;> decide +kernel)

theorem witness_ForwardedGood :
    (∀ op, (carrying array op).Carries 1 7 (carried op) (issued op)) ∧
    (issued .read).op = .read ∧ (carried .read).op.kind = .read ∧
    (List.replicate 16 (0 : Sector)).length = 8 * (carried .read).op.count ∧
    (issued .write).op = .write ∧ (carried .write).op.kind = .write ∧
    (issued .flush).op = .flush ∧ (carried .flush).op.kind = .flush :=
  ⟨carrying_carries, by decide⟩

theorem witness_ForwardedUnreadable :
    (carrying array .read).Carries 1 7 (carried .read) (issued .read) ∧ (issued .read).op = .read ∧
    (carried .read).op.kind = .read ∧ (issued .read).place = some place9 ∧
    ([0, 0x80] : List Byte).length = (carried .read).op.count ∧
    (List.replicate 16 (0 : Sector)).length = 8 * (carried .read).op.count ∧
    ([0, 0x80] : List Byte)[1]? = some 0x80 ∧ (∀ a, a < 1 → ([0, 0x80] : List Byte)[a]? = some 0) ∧
    (∀ mask ∈ ([0, 0] : List Byte), mask = 0) :=
  ⟨carrying_carries .read, by decide⟩

/-- The write carried, with this error count on its port. -/
def counted (n : Nat) : State :=
  let s := carrying array .write
  s.setPort 1 { s.port 1 with errors := n }

theorem counted_carries (n : Nat) : (counted n).Carries 1 7 (carried .write) (issued .write) :=
  carries (outstanding (rests ⟨rfl, rfl, rfl,
    fun c => show (array.ctx c).stalled = false by revert c; decide +kernel, rfl, rfl⟩) ⟨rfl, rfl, rfl⟩)
    ⟨rfl, rfl, rfl, by intro l hl; cases hl⟩

theorem witness_ForwardedFaultOrTimeout :
    (counted 1).Carries 1 7 (carried .write) (issued .write) ∧ ((counted 1).port 1).health ≠ .failed ∧
    min (((counted 1).port 1).errors + 1) 15 < (counted 1).target.policy.failThreshold ∧
    (carried .write).op.kind ≠ .read ∧ (carried .write).issue = some { id := 7, deadline := 2000000 } ∧
    ((counted 1).advanceTo 2000000).settleDue = false ∧ fitMasks 2 [0, 0] = [0, 0] :=
  ⟨counted_carries 1, by decide +kernel⟩

theorem witness_FailingTimeoutAbsorbsWrite :
    (counted 2).Carries 1 7 (carried .write) (issued .write) ∧ ((counted 2).port 1).list = [carried .write] ∧
    (carried .write).issue = some { id := 7, deadline := 2000000 } ∧
    ((counted 2).advanceTo 2000000).settleDue = false ∧ (issued .write).op = .write ∧
    (carried .write).op.kind = .write ∧ (issued .write).slot = 1 ∧ (issued .write).place = some place9 ∧
    (counted 2).portOf 1 = some 1 ∧ ((counted 2).port 1).health = .online ∧ ((counted 2).port 1).bound = false ∧
    (counted 2).failedMembers = [] ∧ (counted 2).locked 1 = false ∧ (counted 2).job.state = .idle ∧
    (counted 2).target.policy.autoStart = false ∧ (counted 2).target.policy.autoFail = true ∧
    (counted 2).target.policy.failThreshold ≤ min (((counted 2).port 1).errors + 1) 15 :=
  ⟨counted_carries 2, by decide +kernel⟩

/-- The array with an orphan outstanding on port 1. -/
def orphaned (autoFail : Bool) : State :=
  let s := listed array 1 [sent (stray .write true 9) 7]
  { s with target := { s.target with policy := { s.target.policy with autoFail } } }

theorem witness_UnmatchedAndOrphan :
    (array.port 1).outstanding? 7 = none ∧
    (∀ autoFail, (orphaned autoFail).Outstanding 1 7 (sent (stray .write true 9) 7)) ∧
    (orphaned false).txRests ∧ (orphaned true).txRests ∧ (sent (stray .write true 9) 7).op.orig = .orphan ∧
    (orphaned true).slt.locks = [] ∧ (orphaned false).target.policy.autoFail = false :=
  ⟨by decide +kernel, fun a => outstanding (rests (by cases a <;> decide +kernel)) (by cases a <;> decide +kernel),
    txRests (by decide), txRests (by decide), by decide⟩

/-- The port of that orphan with a full list, and operations of contexts 2 and 4 deferred. -/
def deferring (kind : CtxKind) : State :=
  let op (c : CtxId) (addr : Nat) : DriveOp := { stray .read false addr with orig := .ctx c 1 }
  let s := listed array 1 (sent (stray .read false 9) 7 :: List.replicate 71 { op := stray .read false 0, issue := none })
  (s.setPort 1 { s.port 1 with deferred := [op 2 16, op 4 24] }).setCtx 2 { s.ctx 2 with kind }

theorem witness_UnmatchedAndOrphan_deferred :
    (∀ kind, (deferring kind).Quiet ∧ ((deferring kind).port 1).outstanding? 7 = some (sent (stray .read false 9) 7) ∧
      (deferring kind).slt.locks = [] ∧ ((deferring kind).port 1).health = .online ∧
      ((deferring kind).port 1).list.length ≤ 72 ∧ ((deferring kind).port 1).deferred =
        [{ stray .read false 16 with orig := .ctx 2 1 }, { stray .read false 24 with orig := .ctx 4 1 }] ∧
      ((deferring kind).ctx 2).kind = kind) ∧
    (sent (stray .read false 9) 7).op.orig = .orphan := by
  refine ⟨fun k => ⟨⟨rests ?_, txRests ?_⟩, ?_⟩, by decide⟩ <;> cases k <;> decide +kernel

/-! ### Locks, contexts and the engine -/

/-- A WRITE of the foreground at block 9, carried while context 0 waits for its DRAINING lock with this count. -/
def draining (n : Nat) : State :=
  let s := context (carrying degraded .write) .degraded .locking [] .noRequest
  { s with slt := { s.slt with locks := [lock1 false n] } }

theorem draining_outstanding (n : Nat) : (draining n).Outstanding 1 7 (carried .write) :=
  outstanding (rests ⟨rfl, rfl, rfl,
    fun c => show ((draining 0).ctx c).stalled = false by revert c; decide +kernel, rfl, rfl⟩) ⟨rfl, rfl, rfl⟩

theorem witness_DrainedLockGranted :
    (∀ n, (draining n).Outstanding 1 7 (carried .write)) ∧ (carried .write).op.orig = .tag (issued .write).tag ∧
    (draining 2).entry? 5 = some (issued .write) ∧ (issued .write).state = .issued ∧ (issued .write).op = .write ∧
    (carried .write).op.kind = .write ∧ (carried .write).op.fgWrite = true ∧
    lock1 false 2 ∈ (draining 2).slt.locks ∧ (lock1 false 2).first ≤ (carried .write).op.addr ∧
    (carried .write).op.addr ≤ (lock1 false 2).last ∧ 1 < (lock1 false 2).drain ∧
    (∀ k ∈ (draining 2).slt.locks, k = lock1 false 2) ∧
    (draining 1).entry? 5 = some (issued .write) ∧ (∀ k ∈ (draining 1).slt.locks, k = lock1 false 1) ∧
    (draining 1).maskOpen 0 ∧
    (draining 0).Quiet ∧ lock1 false 0 ∈ (draining 0).slt.locks ∧
    (∀ k ∈ (draining 0).slt.locks, k.ctx = 0 → k = lock1 false 0) ∧ (draining 0).maskOpen 0 :=
  ⟨draining_outstanding, by decide, by decide +kernel, by decide, by decide, by decide, by decide, by decide +kernel,
    by decide, by decide, by decide, by decide +kernel, by decide +kernel, by decide +kernel,
    ⟨by decide +kernel, by decide +kernel⟩, ⟨rests (by decide +kernel), txRests (by decide)⟩, by decide +kernel,
    by decide +kernel, ⟨by decide +kernel, by decide +kernel⟩⟩

theorem witness_LanesInAnyOrder :
    [Outcome.good [1], .missing].Perm [.missing, .good [1]] ∧ (7 : Nat) < 8 ∧
    (∀ d ∈ ([List.replicate 8 1, List.replicate 8 2] : List (List Sector)), d.length = 8) ∧
    (List.replicate 8 Lane.empty).length = (List.replicate 8 (0 : Sector)).length ∧
    (List.replicate 8 (0 : Sector)).length = 8 * ([0x80] : List Byte).length ∧
    (Lane.empty.addMissing).missing = true ∧ (Lane.empty.addUnreadable).missing = false ∧
    (Lane.empty.addUnreadable).unreadable = true ∧ Lane.empty.missing = false ∧ Lane.empty.unreadable = false :=
  ⟨List.Perm.swap _ _ _, by decide +kernel⟩

/-- Context 0 at work on stripe 1, one of its operations outstanding on port p under identity 7. -/
def engaged (s : State) (kind : CtxKind) (state : CtxState) (outstanding : List PortId) (origin : CtxOrigin)
    (p : PortId) (op : OpKind) : State :=
  listed (context s kind state outstanding origin) p [sent (ctxOp op) 7]

theorem readsFor {s : State} {p : PortId} {id : Nat} {e : ListEntry} {c : CtxId} (o : s.Outstanding p id e)
    (x : e.op.orig = .ctx c (s.ctx c).serial ∧ e.op.fgWrite = false) : s.ReadsFor p id e c := ⟨o, x.1, x.2⟩

/-- A policy that fails no port by errors. -/
def lenient (s : State) : State :=
  { s with target := { s.target with policy := { s.target.policy with autoFail := false } } }

/-- A reading context that waits for ports 0 and 1. -/
def peers (kind : CtxKind) : State :=
  engaged (lenient (rebuild .active 1 2 [{ stripe := 1, done := false }])) kind .reading [0, 1] .noRequest 0 .read

theorem witness_PeerReadTaken :
    (∀ kind, (peers kind).ReadsFor 0 7 (sent (ctxOp .read) 7) 0) ∧ (peers .sweep).txRests ∧
    (sent (ctxOp .read) 7).op.kind = .read ∧ ((peers .sweep).ctx 0).state = .reading ∧
    ((peers .sweep).ctx 0).outstanding.erase 0 ≠ [] ∧
    (List.replicate 64 (0 : Sector)).length = 8 * (sent (ctxOp .read) 7).op.count ∧
    (List.replicate 7 0 ++ [0x80] : List Byte).length = (sent (ctxOp .read) 7).op.count ∧
    (∃ m ∈ (List.replicate 7 0 ++ [0x80] : List Byte), m ≠ 0) ∧
    (sent (ctxOp .read) 7).issue = some { id := 7, deadline := 2000000 } ∧
    ((peers .sweep).advanceTo 2000000).settleDue = false ∧ ((peers .sweep).advanceTo 2000000).txRests ∧
    ((peers .sweep).port 0).health = .online ∧ (peers .sweep).target.policy.autoFail = false ∧
    ((peers .degraded).ctx 0).kind ≠ .sweep ∧
    ((peers .sweep).ctx 0).retries.get 0 < (peers .sweep).target.policy.retryLimit ∧
    ((peers .sweep).port 0).hasRoom = true :=
  ⟨fun k => readsFor (outstanding (rests (by cases k <;> decide +kernel)) (by cases k <;> decide +kernel))
      (by cases k <;> decide +kernel), txRests (by decide), by decide, by decide +kernel, by decide +kernel,
    by decide +kernel, by decide, by decide, by decide, by decide +kernel, txRests (by decide), by decide +kernel⟩

/-- A sweep at its retry limit; and a context whose READ of port 0 is outstanding while port 0 is FAILED too. -/
def retried (s : State) : State := s.setCtx 0 { s.ctx 0 with retries := Vector.replicate 10 1 }
def failedPeer (kind : CtxKind) : State :=
  engaged { health degraded 0 .failed with table := [asking 2] } kind .reading [0, 1] (.tag 5) 0 .read

theorem witness_PeerReadTaken_limits :
    (retried (peers .sweep)).ReadsFor 0 7 (sent (ctxOp .read) 7) 0 ∧
    (retried (peers .sweep)).target.policy.retryLimit ≤ ((retried (peers .sweep)).ctx 0).retries.get 0 ∧
    ((retried (peers .sweep)).ctx 0).kind = .sweep ∧
    (∀ kind ∈ [CtxKind.degraded, .fill], let s := failedPeer kind
      s.ReadsFor 0 7 (sent (ctxOp .read) 7) 0 ∧ s.txRests ∧ (s.ctx 0).state = .reading ∧
      (s.ctx 0).outstanding.erase 0 ≠ [] ∧ (s.port 0).health = .failed ∧ (s.ctx 0).kind ≠ .sweep ∧
      (s.ctx 0).origin = .tag (asking 2).tag ∧ s.entry? (asking 2).tag = some (asking 2) ∧
      s.portOf (asking 2).slot = some 2 ∧ s.routeOf (asking 2).slot 2 .read place9.stripe = .lost ∧
      (∀ l ∈ s.slt.locks, l.ctx = 0) ∧ s.slt.held = [] ∧ s.engine.waitList = [] ∧ s.job.state ≠ .active) ∧
    (asking 2).op = .read ∧ (asking 2).state = .issued ∧ (asking 2).place = some place9 := by
  refine ⟨readsFor (outstanding (rests (by decide +kernel)) (by decide +kernel)) (by decide +kernel), by decide +kernel,
    by decide +kernel, fun k hk => ⟨readsFor (outstanding (rests ?_) ?_) ?_, txRests ?_, ?_⟩, by decide⟩ <;> revert k
  all_goals decide +kernel

/-- Context 0 at work for that READ, with only port 1 outstanding, lane `k` of the strip with a MISSING input where there is one. -/
def lastRead (kind : CtxKind) (s : State) (k : Option Nat) : State :=
  let t := engaged { s with table := [asking 2] } kind .reading [1] (.tag 5) 1 .read
  t.setCtx 0 { t.ctx 0 with lanes := (List.range 64).map (fun i =>
    if some i = k then Lane.empty.addMissing else Lane.empty) }

theorem witness_DegradedReadAnswered :
    (∀ k ∈ [none, some 8, some 23, some 24], (lastRead .degraded degraded k).ReadsFor 1 7 (sent (ctxOp .read) 7) 0) ∧
    (sent (ctxOp .read) 7).op.kind = .read ∧
    (List.replicate 64 (0 : Sector)).length = 8 * (sent (ctxOp .read) 7).op.count ∧
    (∀ k ∈ [none, some 8, some 23, some 24], let s := lastRead .degraded degraded k
      (s.ctx 0).kind = .degraded ∧ (s.ctx 0).state = .reading ∧ (s.ctx 0).outstanding = [1] ∧
      (s.ctx 0).origin = .tag 5 ∧ s.entry? 5 = some (asking 2) ∧ s.slt.held = [] ∧ s.engine.waitList = [] ∧
      s.job.state ≠ .active) ∧ (asking 2).state = .issued ∧ (asking 2).place = some place9 ∧
    (∀ b, b < 2 → ∀ k, k < 8 → (lanesGood ((lastRead .degraded degraded (some 24)).ctx 0).lanes
      (List.replicate 64 0))[8 * 1 + 8 * b + k]?.map Lane.class = some .good) ∧
    (lanesGood ((lastRead .degraded degraded (some 8)).ctx 0).lanes
      (List.replicate 64 0))[8 * 1 + 8 * 0 + 0]?.map Lane.class = some .lostMissing ∧
    (lanesGood ((lastRead .degraded degraded (some 23)).ctx 0).lanes
      (List.replicate 64 0))[8 * 1 + 8 * 1 + 7]?.map Lane.class = some .lostMissing := by
  refine ⟨fun k hk => readsFor (outstanding (rests ?_) ?_) ?_, by decide +kernel⟩ <;> revert k <;> decide +kernel

/-- The job state of a state set. -/
def jobState (s : State) (state : JobState) : State := { s with job := { s.job with state } }

/-- A FILL context that writes nothing: a lane outside the requested blocks is lost, or the spare has lost its mark. -/
theorem witness_DegradedReadAnswered_fill :
    (∀ s ∈ [lastRead .fill (rebuild .stopped 1 1 []) (some 60),
        let t := rebuild .stopped 1 1 []
        lastRead .fill (t.setPort 3 { t.port 3 with bound := false }) none],
      s.ReadsFor 1 7 (sent (ctxOp .read) 7) 0 ∧ (s.ctx 0).kind = .fill ∧ (s.ctx 0).state = .reading ∧
      (s.ctx 0).outstanding = [1] ∧ (s.ctx 0).origin = .tag 5 ∧ s.entry? 5 = some (asking 2) ∧ s.slt.held = [] ∧
      s.engine.waitList = [] ∧ s.job.state ≠ .active ∧ (s.ctx 0).target = some 3 ∧
      ((s.port 3).bound = false ∨ (lanesGood (s.ctx 0).lanes (List.replicate 64 0))[60]?.map Lane.class =
        some .lostMissing) ∧
      (∀ b, b < 2 → ∀ k, k < 8 → (lanesGood (s.ctx 0).lanes (List.replicate 64 0))[8 * 1 + 8 * b + k]?.map Lane.class =
        some .good)) := by
  refine fun s hs => ⟨readsFor (outstanding (rests ?_) ?_) ?_, ?_⟩ <;> revert s <;> decide +kernel

/-- The last READ of context 0 without a request, another request waiting for its end. -/
def requestless (e : InFlight) (s : State) : State :=
  engaged { s with table := [e] } .degraded .reading [1] .noRequest 1 .read

/-- A WRITE of block 9 by member 0, held behind context 0. -/
def heldWrite : InFlight :=
  { placedEntry .write (hd 6 0 2 9) (List.replicate 16 1) place9 with state := .held }

/-- A READ of block 9 of member 2 that waits for a context. -/
def waitingRead : InFlight := { placedEntry .read (hd 6 2 2 9) [] place9 with state := .waiting }

theorem witness_DegradedReadAnswered_released :
    let s := requestless heldWrite degraded
    let t : State := { s with slt := { s.slt with held := [{ tag := 6, lock := 0 }] } }
    t.ReadsFor 1 7 (sent (ctxOp .read) 7) 0 ∧ t.txRests ∧ t.TableInv ∧ (t.ctx 0).kind = .degraded ∧
    (t.ctx 0).state = .reading ∧ (t.ctx 0).outstanding = [1] ∧ (t.ctx 0).origin = .noRequest ∧ t.job.state ≠ .active ∧
    t.entry? heldWrite.tag = some heldWrite ∧ heldWrite.place = some place9 ∧ t.portOf heldWrite.slot = some 0 ∧
    t.slt.held = [{ tag := heldWrite.tag, lock := 0 }] ∧ t.engine.waitList = [] ∧ heldWrite.state = .held ∧
    heldWrite.op = .write ∧ t.routeOf heldWrite.slot 0 .write place9.stripe = .forward 0 ∧
    (t.port 0).health = .online ∧ (t.port 0).hasRoom = true ∧ (∀ l ∈ t.slt.locks, l.ctx = 0) :=
  ⟨readsFor (outstanding (rests (by decide +kernel)) (by decide +kernel)) (by decide +kernel), txRests (by decide),
    tableInv (by decide +kernel), by decide +kernel⟩

theorem witness_DegradedReadAnswered_offered :
    let s := requestless waitingRead (listed (pool degraded 6) 0 [sent (stray .write true 15) 3])
    let t : State := { s with engine := { s.engine with
      waitList := [6], ctxs := s.engine.ctxs.map (fun x =>
        if x.state = .free then { x with state := .reading, kind := .sweep } else x) } }
    t.ReadsFor 1 7 (sent (ctxOp .read) 7) 0 ∧ t.txRests ∧ t.TableInv ∧ (t.ctx 0).kind = .degraded ∧
    (t.ctx 0).state = .reading ∧ (t.ctx 0).outstanding = [1] ∧ (t.ctx 0).origin = .noRequest ∧ t.job.state ≠ .active ∧
    t.entry? waitingRead.tag = some waitingRead ∧ waitingRead.place = some place9 ∧
    t.portOf waitingRead.slot = some 2 ∧ t.slt.held = [] ∧ t.engine.waitList = [waitingRead.tag] ∧
    waitingRead.state = .waiting ∧ waitingRead.op = .read ∧
    t.routeOf waitingRead.slot 2 .read place9.stripe = .reconstruct .degraded [0, 1] none none ∧
    (∀ l ∈ t.slt.locks, l.ctx = 0) ∧ t.foregroundInUse ≤ 6 ∧ (∀ k, (t.ctx k).state ≠ .free) ∧
    t.engine.late.head? ≠ some true ∧ 0 < t.foregroundWrites (t.firstBlock 1) (t.lastBlock 1) :=
  ⟨readsFor (outstanding (rests (by decide +kernel)) (by decide +kernel)) (by decide +kernel), txRests (by decide),
    tableInv (by decide +kernel), by decide +kernel⟩

theorem witness_FillWritesStrip :
    (∀ state ∈ [JobState.active, .stopping, .stopped, .paused], let s := lastRead .fill (rebuild state 1 1 []) none
      s.ReadsFor 1 7 (sent (ctxOp .read) 7) 0 ∧ (s.ctx 0).kind = .fill ∧ (s.ctx 0).target = some 3 ∧
      (s.port 3).bound = true ∧ (s.ctx 0).targetMember = some 2 ∧ s.job.target = some 2 ∧
      (s.ctx 0).state = .reading ∧ (s.ctx 0).outstanding = [1] ∧ (s.ctx 0).origin = .tag 5 ∧
      s.entry? 5 = some (asking 2) ∧ s.slt.locks.find? (fun k => k.ctx == 0) = some (lock1 true 0) ∧
      (s.port 3).health = .online ∧ (s.port 3).hasRoom = true ∧
      (∀ k ∈ (s.ctx 0).lanes, k.missing = false ∧ k.unreadable = false)) ∧
    (sent (ctxOp .read) 7).op.kind = .read ∧
    (List.replicate 64 (0 : Sector)).length = 8 * (sent (ctxOp .read) 7).op.count ∧
    (asking 2).place = some place9 ∧
    (∀ state ∈ [JobState.stopping, .stopped, .paused],
      let s := engaged (rebuild state 1 1 []) .fill .writing [] .noRequest 3 .write
      s.ReadsFor 3 7 (sent (ctxOp .write) 7) 0 ∧ (s.ctx 0).kind = .fill ∧ (s.ctx 0).target = some 3 ∧
      (s.port 3).bound = true ∧ (s.ctx 0).targetMember = some 2 ∧ s.job.target = some 2 ∧
      (s.ctx 0).state = .writing ∧ s.txRests ∧ s.slt.held = [] ∧ s.engine.waitList = [] ∧
      s.job.w ≤ (s.ctx 0).stripe ∧ s.spareCurrent (s.ctx 0).stripe = false ∧ s.job.ahead = []) := by
  refine ⟨fun k hk => ⟨readsFor (outstanding (rests ?_) ?_) ?_, ?_⟩, by decide, by decide +kernel, by decide,
    fun k hk => ⟨readsFor (outstanding (rests ?_) ?_) ?_, ?_⟩⟩ <;> revert k
  case refine_8 => unfold State.txRests; decide +kernel
  all_goals decide +kernel

/-- The same WRITE with the spare FAILED and its mark gone. -/
theorem witness_FillWritesStrip_spareGone :
    let r := engaged (rebuild .stopped 1 1 []) .fill .writing [] .noRequest 3 .write
    let s := r.setPort 3 { r.port 3 with health := .failed, bound := false }
    s.ReadsFor 3 7 (sent (ctxOp .write) 7) 0 ∧ (s.ctx 0).kind = .fill ∧ (s.ctx 0).target = some 3 ∧
    (sent (ctxOp .write) 7).op.kind = .write ∧ (s.ctx 0).state = .writing ∧ s.txRests ∧ s.slt.held = [] ∧
    s.engine.waitList = [] ∧ s.job.state ≠ .active ∧ (s.port 3).health = .failed :=
  ⟨readsFor (outstanding (rests (by decide +kernel)) (by decide +kernel)) (by decide +kernel), by decide +kernel,
    by decide +kernel, by decide, by decide +kernel, txRests (by decide), by decide +kernel⟩

/-- A SWEEP context that writes stripe 1 to the spare, lane 20 of the strip lost where `lost` says so. -/
def sweeping (state : CtxState) (op : OpKind) (lost : Bool) (s : State) : State :=
  let t := engaged s .sweep state [] (.window 1) 3 op
  t.setCtx 0 { t.ctx 0 with classes := (List.range 64).map (fun i =>
    if lost && i == 20 then .lostUnreadable else .good) }

theorem witness_LostLanesMarked :
    let s := sweeping .writing .write true (rebuild .active 1 2 [{ stripe := 1, done := false }])
    s.ReadsFor 3 7 (sent (ctxOp .write) 7) 0 ∧ s.txRests ∧ (sent (ctxOp .write) 7).op.kind = .write ∧
    (s.ctx 0).kind = .sweep ∧ (s.ctx 0).state = .writing ∧ (s.ctx 0).target = some 3 ∧
    (s.ctx 0).classes.any LaneClass.lost = true ∧
    s.slt.locks.find? (fun k => k.ctx == 0) = some (lock1 true 0) ∧ (s.port 3).health = .online ∧
    (s.port 3).hasRoom = true :=
  ⟨readsFor (outstanding (rests (by decide +kernel)) (by decide +kernel)) (by decide +kernel), txRests (by decide),
    by decide, by decide +kernel⟩

/-- Its last READ, a lane of the strip lost. -/
theorem witness_LostLanesMarked_lastRead :
    let s := lastRead .sweep (rebuild .active 1 2 [{ stripe := 1, done := false }]) (some 20)
    s.ReadsFor 1 7 (sent (ctxOp .read) 7) 0 ∧ s.txRests ∧ (s.ctx 0).kind = .sweep ∧ (s.ctx 0).target = some 3 ∧
    s.slt.locks.find? (fun k => k.ctx == 0) = some (lock1 true 0) ∧ (s.port 3).health = .online ∧
    (s.port 3).hasRoom = true ∧ (sent (ctxOp .read) 7).op.kind = .read ∧
    (List.replicate 64 (0 : Sector)).length = 8 * (sent (ctxOp .read) 7).op.count ∧ (s.ctx 0).state = .reading ∧
    (s.ctx 0).outstanding = [1] :=
  ⟨readsFor (outstanding (rests (by decide +kernel)) (by decide +kernel)) (by decide +kernel), txRests (by decide),
    by decide +kernel⟩

/-- Its WRITE, or its MARKBAD, outstanding as the context offered it. -/
theorem witness_LostLanesMarked_reoffered :
    ∀ state ∈ [CtxState.writing, .marking],
      let r := sweeping state .write true (lenient (rebuild .active 1 2 [{ stripe := 1, done := false }]))
      let s := listed r 3 [sent (r.spareOp 0) 7]
      s.ReadsFor 3 7 (sent (s.spareOp 0) 7) 0 ∧ s.txRests ∧ (s.ctx 0).kind = .sweep ∧ (s.ctx 0).target = some 3 ∧
      s.slt.locks.find? (fun k => k.ctx == 0) = some (lock1 true 0) ∧ (s.port 3).health = .online ∧
      (s.port 3).hasRoom = true ∧ (s.ctx 0).state = state ∧ s.target.policy.autoFail = false := by
  refine fun x hx => ⟨readsFor (outstanding (rests ?_) ?_) ?_, txRests ?_, ?_⟩ <;> revert x <;> decide +kernel

/-- The window with stripe 1 at work and stripe 3 behind it; stripe 2 is in the ahead set. -/
def swept (state : CtxState) (op : OpKind) (lost : Bool) : State :=
  let s := rebuild .active 1 4 [{ stripe := 1, done := false }, { stripe := 3, done := false }]
  sweeping state op lost { s with job := { s.job with ahead := [2] }, lost := { s.lost with reservations := 2 } }

theorem witness_SweepStripeRetired :
    (∀ x ∈ [(CtxState.writing, OpKind.write, false), (.marking, .markbad, true)],
      let s := swept x.1 x.2.1 x.2.2
      s.ReadsFor 3 7 (sent (ctxOp x.2.1) 7) 0 ∧ (sent (ctxOp x.2.1) 7).op.kind ≠ .read ∧ (s.ctx 0).kind = .sweep ∧
      (s.ctx 0).origin = .window (s.ctx 0).stripe ∧ s.slt.held = [] ∧ s.engine.waitList = [] ∧ s.pacing.credit < s.width ∧ s.job.n ∉ s.job.ahead ∧
      s.notices.milestones = [] ∧
      (s.job.window.map (fun w => if w.stripe = (s.ctx 0).stripe then { w with done := true } else w)).dropWhile
        (·.done) = [{ stripe := 3, done := false }]) ∧
    (swept .writing .write false).txRests ∧ (swept .marking .markbad true).txRests ∧
    ((swept .writing .write false).ctx 0).classes.any LaneClass.lost = false := by
  refine ⟨fun k hk => ⟨readsFor (outstanding (rests ?_) ?_) ?_, ?_⟩, txRests (by decide), txRests (by decide), by
    decide +kernel⟩ <;> revert k <;> decide +kernel

/-- A list with this many entries. -/
def listing (n : Nat) : State :=
  let s := rebuild .active 1 2 []
  { s with lost := { entries := List.replicate n ⟨0, 2, .both, [0], [(0, 1)]⟩, reservations := 1 } }

theorem witness_LostEntryAppended :
    ¬ (listing 126).lost.entries.length + 1 = Config.lostBound ∧
    (listing 127).lost.entries.length + 1 = Config.lostBound ∧ (listing 127).job.state = .active ∧
    (jobState (listing 127) .stopping).job.state ≠ .active ∧
    (swept .marking .markbad true).job.target = some 2 ∧
    ((swept .marking .markbad true).ctx 0).classes.any LaneClass.lost = true := by decide +kernel

/-! ### The job -/

/-- A state that serves a management command with tag 6. -/
theorem served {s : State} (r : s.Rests) (x : s.channel.responses = [] ∧ s.table = [] ∧ s.target.current = none ∧
    s.target.waiting = []) : s.Serves (hd 6 15 0 0) :=
  serves (takes r ⟨by rw [Channel.refusals, x.1]; decide, by decide, by rw [State.entry?, x.2.1]; rfl⟩)
    ⟨by decide, x.2.2.1, x.2.2.2⟩

theorem witness_StartRebuild :
    degraded.Serves (hd 6 15 0 0) ∧ parseStart [2, 3, 24, 0, 0, 0] = some (2, 3, some 24) ∧
    degraded.job.state = .idle ∧ 9 < (10 : Byte).toNat ∧ degraded.width ≤ (3 : Byte).toNat ∧
    degraded.failedMembers ≠ [(1 : Byte).toNat] ∧ degraded.failedMembers = [(2 : Byte).toNat] ∧
    (degraded.port 1).role ≠ .spare ∧ (degraded.port 3).role = .spare ∧ (degraded.port 3).health = .online ∧
    degraded.stripeCount < (some 25).getD 0 ∧ (some 24).getD 0 = degraded.stripeCount ∧
    (some 23).getD 0 < degraded.stripeCount ∧ degraded.pacing.credit < degraded.width ∧
    (rebuild .active 4 4 []).Serves (hd 6 15 0 0) ∧ (rebuild .stopped 4 4 []).Serves (hd 6 15 0 0) ∧
    (rebuild .stopped 4 4 []).failedMembers = [2] ∧ (rebuild .stopped 4 4 []).job.target = some 2 ∧
    (rebuild .stopped 4 4 []).job.spare = some 3 ∧ (rebuild .stopped 4 4 []).job.w < (some 5).getD 4 ∧
    (some 4).getD 4 ≤ (rebuild .stopped 4 4 []).job.w ∧ (rebuild .stopped 4 4 []).job.spare ≠ some 4 :=
  ⟨served (rests (by decide +kernel)) (by decide), by decide, by decide, by decide, by decide, by decide +kernel,
    by decide +kernel, by decide +kernel, by decide +kernel, by decide +kernel, by decide, by decide, by decide, by decide,
    served (rests (by decide +kernel)) (by decide), served (rests (by decide +kernel)) (by decide), by decide +kernel⟩

/-- The last stripe of a window, in STOPPING with an awaiting STOP. -/
def stopping : State :=
  let s := rebuild .stopping 1 2 [{ stripe := 1, done := false }]
  sweeping .writing .write false
    { s with job := { s.job with awaiting := some 9 }
             table := [{ newEntry .manage (hd 9 15 0 0) [] with state := .issued }] }

theorem witness_StopRebuild :
    (∀ x ∈ [(JobState.active, [({ stripe := 1, done := false } : WindowEntry)]), (.active, []), (.paused, []),
      (.stopping, []), (.stopped, []), (.idle, []), (.armed, []), (.halted, []), (.done, [])],
      (rebuild x.1 1 2 x.2).Serves (hd 6 15 0 0) ∧ (rebuild x.1 1 2 x.2).job.state = x.1 ∧
      (rebuild x.1 1 2 x.2).job.window = x.2) ∧
    stopping.ReadsFor 3 7 (sent (ctxOp .write) 7) 0 ∧ (sent (ctxOp .write) 7).op.kind = .write ∧
    (stopping.ctx 0).kind = .sweep ∧ (stopping.ctx 0).state = .writing ∧
    (stopping.ctx 0).classes.any LaneClass.lost = false ∧ stopping.slt.held = [] ∧ stopping.engine.waitList = [] ∧
    stopping.job.window = [{ stripe := (stopping.ctx 0).stripe, done := false }] ∧ stopping.job.state = .stopping ∧
    (stopping.ctx 0).origin = .window (stopping.ctx 0).stripe ∧ (stopping.entry? 9).map (·.state) = some .issued ∧
    stopping.job.n < stopping.stripeCount ∧ stopping.job.awaiting = some 9 ∧ stopping.notices.milestones = [] := by
  refine ⟨fun x hx => ⟨served (rests ?_) ?_, ?_⟩,
    readsFor (outstanding (rests (by decide +kernel)) (by decide +kernel)) (by decide +kernel), by decide, by
    decide +kernel⟩ <;> revert x <;> decide +kernel

/-- A job with a SWEEP context at work: the contexts of SweepContextsAbandoned are met. -/
theorem witness_SweepContextsAbandoned :
    ((swept .writing .write false).ctx 0).state ≠ .free ∧ ((swept .writing .write false).ctx 0).kind = .sweep ∧
    ((swept .writing .write false).ctx 1).state = .free ∧
    ((swept .writing .write false).port 3).list = [sent (ctxOp .write) 7] ∧ (ctxOp .write).orig = .ctx 0 1 ∧
    (swept .writing .write false).job.spare = some 3 := by decide +kernel

theorem witness_BoundJobEnds :
    let s := rebuild .stopped 4 4 []
    s.Serves (hd 6 15 0 0) ∧ s.Quiet ∧ (1 : Byte).toNat < s.width ∧ s.portOf (1 : Byte).toNat = some 1 ∧
    (s.port 1).health = .online ∧ (s.port 1).bound = false ∧ (s.port 1).list = [] ∧ (s.port 1).deferred = [] ∧
    s.job.state = .stopped ∧ s.job.target = some 2 ∧ s.job.awaiting = none ∧ s.job.window = [] ∧
    s.engine.waitList = [] ∧ (∀ c, (s.ctx c).state = .free) ∧ s.job.spare = some 3 ∧ (s.port 3).bound = true ∧
    (s.port 3).role = .spare ∧ (s.port 3).health = .online ∧ (s.port 3).list = [] ∧ (s.port 3).deferred = [] ∧
    s.target.policy.autoStart = false ∧ degraded.Serves (hd 6 15 0 0) ∧ degraded.job.state.bound = false :=
  ⟨served (rests (by decide +kernel)) (by decide), ⟨rests (by decide +kernel), txRests (by decide)⟩, by decide,
    by decide +kernel, by decide +kernel, by decide +kernel, by decide +kernel, by decide +kernel, by decide, by decide,
    by decide, by decide, by decide, by decide +kernel, by decide, by decide +kernel, by decide +kernel,
    by decide +kernel, by decide +kernel, by decide +kernel, by decide, served (rests (by decide +kernel)) (by decide),
    by decide⟩

theorem witness_CompletionExchangesRoles :
    let s := rebuild .active 24 24 []
    s.job.target = some 2 ∧ s.job.spare = some 3 ∧ s.portOf 2 = some 2 ∧ (3 : PortId) ≠ 2 ∧ s.job.awaiting = none ∧
    s.notices.milestones = [] := by decide +kernel

/-- The policy with AutoStart on. -/
def autoStart (s : State) : State :=
  { s with target := { s.target with policy := { s.target.policy with autoStart := true } } }

/-- A job armed for member 2, its timer due at 30 seconds; ports 3 and 4 are fit spares, or none is. -/
def armed (spares : Health) : State :=
  let s := health (health degraded 3 spares) 4 spares
  { s with job := { s.job with state := .armed, armed := some 2, settle := some 30000000 } }

theorem witness_ArmingAndExpiry :
    (autoStart array).Serves (hd 6 15 0 0) ∧ (1 : Byte).toNat < (autoStart array).width ∧
    (autoStart array).portOf (1 : Byte).toNat = some 1 ∧ ((autoStart array).port 1).health = .online ∧
    ((autoStart array).port 1).bound = false ∧ ((autoStart array).port 1).list = [] ∧
    ((autoStart array).port 1).deferred = [] ∧ (autoStart array).failedMembers = [] ∧
    (autoStart array).target.policy.autoStart = true ∧ 0 < (autoStart array).target.policy.settleTime ∧
    (autoStart array).job.state = .idle ∧
    (armed .online).Rests ∧ (armed .failed).Rests ∧ (armed .online).job.state = .armed ∧
    (armed .online).job.settle = some 30000000 ∧ (armed .online).job.armed = some 2 ∧
    (∀ q, ¬ (((armed .failed).port q).role = .spare ∧ ((armed .failed).port q).health = .online)) ∧
    ((armed .online).port 3).role = .spare ∧ ((armed .online).port 3).health = .online ∧
    (∀ r, r < 3 → ¬ (((armed .online).port r).role = .spare ∧ ((armed .online).port r).health = .online)) ∧
    0 < (armed .online).stripeCount ∧ 0 ∉ (armed .online).job.ahead ∧
    (armed .online).pacing.credit < (armed .online).width ∧ array.job.settle = none :=
  ⟨served (rests (by decide +kernel)) (by decide), by decide, by decide +kernel, by decide +kernel, by decide +kernel,
    by decide +kernel, by decide +kernel, by decide +kernel, by decide, by decide, by decide, rests (by decide +kernel),
    rests (by decide +kernel), by decide +kernel⟩

/-- The array with AutoStart on and a SettleTime of 0, its spares fit or not. -/
def hasty (spares : Health) : State :=
  let s := autoStart (health (health array 3 spares) 4 spares)
  { s with target := { s.target with policy := { s.target.policy with settleTime := 0 } } }

theorem witness_ArmingAndExpiry_atOnce :
    (∀ spares ∈ [Health.online, .failed], let s := hasty spares
      s.Serves (hd 6 15 0 0) ∧ (1 : Byte).toNat < s.width ∧ s.portOf (1 : Byte).toNat = some 1 ∧
      (s.port 1).health = .online ∧ (s.port 1).bound = false ∧ (s.port 1).list = [] ∧ (s.port 1).deferred = [] ∧
      s.failedMembers = [] ∧ s.target.policy.autoStart = true ∧ s.target.policy.settleTime = 0 ∧ s.job.state = .idle ∧
      0 < s.stripeCount ∧ s.job.ahead = [] ∧ s.pacing.credit < s.width) ∧
    ((hasty .online).port 3).role = .spare ∧ ((hasty .online).port 3).health = .online ∧
    (∀ r, r < 3 → ((hasty .online).port r).role ≠ .spare) ∧ (∀ q, ((hasty .failed).port q).role = .spare →
      ((hasty .failed).port q).health ≠ .online) := by
  refine ⟨fun x hx => ⟨served (rests ?_) ?_, ?_⟩, by decide +kernel⟩ <;> revert x <;> decide +kernel

/-- R106: with B and A at 0 the cursor passes stripe 4 and W follows it, and over the last stripe the job then completes
(R112). -/
theorem test_cursor_passes_without_credit :
    let stood (n : Nat) : State :=
      let s := rebuild .active n n []
      { s with job := { s.job with ahead := [n] }, pacing := .afterReset }
    (stood 4).examine.1 = [.examine] ∧ (stood 4).examine.2.job.n = 5 ∧ (stood 4).examine.2.job.w = 5 ∧
    (stood 23).examine.2.examine.2.job.state = .done := by decide +kernel

/-- R35: a SettleTime of 0 has expired before a waiting RESTORE_PORT of the failed member is taken, and binds the job. -/
theorem test_settle_time_0_expires_at_once :
    let s := hasty .online
    let waits : State := { s with
      table := [{ newEntry .manage (hd 7 15 0 0) [] with state := .issued }]
      target := { s.target with waiting := [(7, [0x0D, 1])] } }
    (run 100 [.take 6 [0x0C, 1], .settle] { waits.addEntry { newEntry .manage (hd 6 15 0 0) [] with state := .issued } with
        target := { waits.target with current := some (6, .taken) } }).map (fun t =>
      (t.job.state, t.job.cause, t.table.map (fun e => e.response.map (·.status)))) =
      some (.active, .auto, [some .jobBound, some .good]) := by decide +kernel

/-- An ACTIVE job at stripe 4 with SweepDepth 1, a foreground write to that stripe standing on port 1 where `n` is 1. -/
def launching (n : Nat) : State :=
  let s := rebuild .active 4 4 []
  listed { s with target := { s.target with policy := { s.target.policy with sweepDepth := 1 } } } 1
    (List.replicate n (sent (stray .write true 32) 7))

theorem witness_PeriodEndLaunchesSweep :
    (∀ n ∈ [0, 1], let s := launching n
      s.Rests ∧ s.job.state = .active ∧ s.job.window = [] ∧ s.job.ahead = [] ∧ s.job.target = some 2 ∧
      s.job.n < s.stripeCount ∧ s.target.policy.sweepDepth = 1 ∧
      s.lost.entries.length + s.lost.reservations < 128 ∧ s.locked s.job.n = false ∧ s.engine.waitList = [] ∧
      (s.ctx 0).state = .free ∧ (∀ k, k < 0 → (s.ctx k).state ≠ .free) ∧ s.slt.locks = [] ∧
      s.width ≤ ((s.advanceTo s.pacing.periodDue).periodEnd s.pacing.periodDue).pacing.credit ∧
      s.foregroundWrites (s.firstBlock s.job.n) (s.lastBlock s.job.n) = n ∧
      (∀ q ∈ s.memberPortsExcept [2], (s.port q).health = .online ∧ (s.port q).hasRoom = true)) := by
  refine fun n hn => ⟨rests ?_, ?_⟩ <;> revert n <;> decide +kernel

theorem witness_PeriodEndLaunchesSweep_skip :
    (∀ share ∈ [0, 1], let r := rebuild .active 4 4 []
      let s : State := { r with
        job := { r.job with ahead := [4] }
        pacing := { r.pacing with inForce := { r.pacing.inForce with mode := .fixed, share } } }
      s.Rests ∧ s.job.state = .active ∧ s.job.window = [] ∧ s.job.ahead = [s.job.n] ∧ s.job.w ≤ s.job.n ∧
      s.job.n + 1 < s.stripeCount ∧ s.notices.milestones = [] ∧
      ((s.advanceTo s.pacing.periodDue).periodEnd s.pacing.periodDue).pacing.budget = share ∧
      ((s.advanceTo s.pacing.periodDue).periodEnd s.pacing.periodDue).pacing.credit < s.width) := by
  refine fun x hx => ⟨rests ?_, ?_⟩ <;> revert x <;> decide +kernel

/-! ### Pacing, notices and the transmitter -/

/-- A pacing timer with this many ticks behind it, the period one of 100. -/
def ticked (n : Nat) : State := { array with pacing := { array.pacing with ticks := n } }

theorem witness_BudgetAndCarry :
    ({ PacingRecord.default with mode := .fixed } : PacingRecord).mode = .fixed ∧ PacingRecord.default.mode = .yield ∧
    ({ PacingRecord.default with mode := .burst } : PacingRecord).mode = .burst ∧ PacingRecord.default.share ≤ 1023 := by
  decide

theorem witness_PeriodEnd :
    (ticked 99).Rests ∧ (ticked 98).Rests ∧ (ticked 99).job.state ≠ .active ∧
    ((ticked 99).advanceTo (ticked 99).pacing.tickDue).settleDue = false ∧
    (ticked 99).pacing.inForce.periodTicks ≤ (ticked 99).pacing.ticks + 1 ∧
    (ticked 98).pacing.ticks + 1 < (ticked 98).pacing.inForce.periodTicks ∧ (armed .online).Rests ∧
    (armed .online).job.state = .armed ∧
    ((armed .online).advanceTo ((armed .online).pacing.tickDue + ((armed .online).pacing.inForce.periodTicks -
      (armed .online).pacing.ticks - 1) * (16 * 2 ^ (armed .online).pacing.inForce.tickSelect))).settleDue = false :=
  ⟨rests (by decide +kernel), rests (by decide +kernel), by decide, by decide +kernel, by decide, by decide,
    rests (by decide +kernel), by decide, by decide +kernel⟩

theorem witness_TicksMakePeriod :
    (ticked 97).Rests ∧ (ticked 97).job.state ≠ .active ∧
    ((ticked 97).advanceTo (ticked 97).pacing.periodDue).settleDue = false ∧
    (ticked 97).pacing.ticks < (ticked 97).pacing.inForce.periodTicks :=
  ⟨rests (by decide +kernel), by decide +kernel⟩

/-- A notice queue with these notices, under this mask. -/
def noticing (mask : BitVec 6) (queue : List Notice) : State :=
  { array with notices := { array.notices with mask, queue } }

theorem witness_NoticeOffered :
    (noticing 0 []).notices.mask.getLsbD Notice.lostFull.maskBit = false ∧
    (noticing 63 []).notices.mask.getLsbD Notice.lostFull.maskBit = true ∧
    ¬ 16 ≤ (noticing 63 (List.replicate 15 .lostFull)).notices.queue.length ∧
    16 ≤ (noticing 63 (List.replicate 16 .lostFull)).notices.queue.length ∧
    (∀ x ∈ (noticing 63 (List.replicate 16 .lostFull)).notices.queue, x = .lostFull) ∧
    (noticing 63 (.lostFull :: .milestone 1 2 :: List.replicate 14 .lostFull)).notices.queue =
      [.lostFull] ++ .milestone 1 2 :: List.replicate 14 .lostFull := by decide

theorem witness_MilestonesFire :
    ({ array with notices := { array.notices with milestones := [⟨3, 1⟩, ⟨9, 2⟩] } } : State).notices.milestones.Pairwise
      (fun a b => a.target < b.target) := by decide

/-- An array that has sent a notice at this moment, with this queue. -/
def gapped (queue : List Notice) : State :=
  { noticing 63 queue with channel := { array.channel with lastNotice := some 0 } }

/-- A state whose transmitter sends a notice. -/
def noticeSending : State := { array with channel := { array.channel with tx := .notice .lostFull } }

theorem witness_TransmitterChooses :
    (answering array).channel.tx ≠ .idle ∧ array.channel.tx = .idle ∧ array.channel.up = true ∧
    ({ array with channel := { array.channel with responses := [.entry 5] } } : State).channel.responses ≠ [] ∧
    array.channel.responses = [] ∧ (noticing 63 [.lostFull]).notices.queue = .lostFull :: [] ∧
    (∀ t, array.channel.lastNotice = some t → t + array.notices.gap * 1000 ≤ array.now) ∧
    ¬ (∀ t, (gapped [.lostFull]).channel.lastNotice = some t →
      t + (gapped [.lostFull]).notices.gap * 1000 ≤ (gapped [.lostFull]).now) ∧
    (answering array).Rests ∧ (answering array).committing = false ∧ (answering array).channel.tx = .response ∧
    (answering array).channel.responses = [.entry 5] ∧ (answering array).target.current ≠ some (5, .resetting) ∧
    (refusing array 1).Rests ∧ (refusing array 1).channel.responses = [.refusal 9 .unknown] ∧
    noticeSending.Rests ∧ noticeSending.channel.tx = .notice .lostFull ∧
    (gapped []).Rests ∧ (gapped []).channel.lastNotice = some 0 ∧
    ((gapped []).advanceTo (0 + (gapped []).notices.gap * 1000)).settleDue = false ∧ array.Rests ∧
    array.channel.lastNotice = none := by
  refine ⟨by decide, by decide, by decide, by decide, by decide, by decide, ?_, ?_, rests (by decide +kernel), by decide,
    by decide, by decide, by decide, rests (by decide +kernel), by decide, rests (by decide +kernel), by decide,
    rests (by decide +kernel), by decide, by decide +kernel, rests (by decide +kernel), by decide⟩
  · intro t ht; cases ht
  · intro h; exact absurd (h 0 rfl) (by decide)

/-- The answer of a RESET_BRIDGE is being sent. -/
theorem witness_TransmitterChooses_resetting :
    let s := { answering array with target := { array.target with current := some (5, .resetting) } }
    s.Rests ∧ s.committing = false ∧ s.channel.tx = .response ∧ s.channel.responses = [.entry 5] ∧
    s.target.current = some (5, .resetting) :=
  ⟨rests (by decide +kernel), by decide⟩

/-! ### The management target -/

theorem array_serves : array.Serves (hd 6 15 0 0) := served (rests (by decide +kernel)) (by decide)

theorem witness_CommandRefused :
    array.Serves (hd 6 15 0 0) ∧ knownCommand 0 = false ∧ knownCommand 0x15 = false ∧ ([0] : List Byte) ≠ [] ∧
    ([] : List Byte).length ≠ 1 ∧ ([0, 0] : List Byte).length ≠ 1 ∧ (List.replicate 17 (0 : Byte)).length ≠ 16 ∧
    (List.replicate 10 (0 : Byte)).length ≠ 11 ∧ (List.replicate 11 (0 : Byte)).length ≠ 10 ∧
    ([0, 0] : List Byte).length ≠ 3 ∧ ([0, 0, 0] : List Byte).length ≠ 2 ∧ ([0, 0, 0] : List Byte).length ≠ 6 ∧
    (16 < (17 : Byte).toNat) ∧ (List.replicate 4 (0 : Byte)).length ≠ 5 * (1 : Byte).toNat :=
  ⟨array_serves, by decide⟩

theorem witness_ReadCommands : array.Serves (hd 6 15 0 0) := array_serves

theorem witness_LoadsAndNotices :
    array.Serves (hd 6 15 0 0) ∧ map3.stripBlocks ∈ [0, 8, 16, 32, 64] ∧ map3.stripeCount ≤ 67108863 ∧ map3.width ≤ 9 ∧
    (∀ p i, map3.roles.get p = .member i → i ≤ 8) ∧
    (List.replicate 10 (0x1F : Byte)).length = 10 ∧
    (∀ r ∈ List.replicate 10 (0x1F : Byte), r.toNat ≤ 1 ∨ (0x10 ≤ r.toNat ∧ r.toNat ≤ 0x1F)) ∧
    ¬ (∀ r ∈ List.replicate 10 (0x20 : Byte), r.toNat ≤ 1 ∨ (0x10 ≤ r.toNat ∧ r.toNat ≤ 0x1F)) ∧
    67108863 < num4 0 0 0 4 ∧ 9 < (10 : Byte).toNat ∧ (7 : Byte).toNat ∉ [0, 8, 16, 32, 64] ∧
    ¬ ([⟨5, 1⟩, ⟨5, 2⟩] : List Milestone).Pairwise (fun a b => a.target < b.target) ∧
    ([⟨1, 1⟩, ⟨24, 2⟩] : List Milestone).Pairwise (fun a b => a.target < b.target) ∧
    (∀ m ∈ ([⟨1, 1⟩, ⟨24, 2⟩] : List Milestone), m.target ≠ 0 ∧ m.target ≤ array.stripeCount) ∧
    (∃ m ∈ ([⟨1, 1⟩, ⟨25, 2⟩] : List Milestone), m.target = 0 ∨ array.stripeCount < m.target) ∧
    63 < (64 : Byte).toNat ∧ 255 < num2 0 1 ∧ (63 : Byte).toNat ≤ 63 ∧ num2 255 0 ≤ 255 := by
  refine ⟨array_serves, by decide, by decide, by decide, ?_, by decide⟩
  intro p i h
  fin_cases p <;> simp [map3, Vector.get] at h <;> omega

theorem witness_SetPacingAndPolicy :
    array.Serves (hd 6 15 0 0) ∧ array.noLaunch ∧
    (PacingRecord.default.tickSelect ≤ 7 ∧ 1 ≤ PacingRecord.default.periodTicks ∧
      PacingRecord.default.periodTicks ≤ 255 ∧ PacingRecord.default.share ≤ 1023 ∧ PacingRecord.default.floor ≤ 1023 ∧
      PacingRecord.default.weight ≤ 255) ∧
    ¬ (1024 : Nat) ≤ 1023 ∧ (0 : Byte).toNat = 0 ∧ 3 < (4 : Byte).toNat ∧ (List.replicate 10 (0 : Byte)).length = 10 ∧
    (1 ≤ Policy.default.failThreshold ∧ Policy.default.failThreshold ≤ 15 ∧ 1 ≤ Policy.default.driveTimeout ∧
      Policy.default.driveTimeout ≤ 255 ∧ Policy.default.retryLimit ≤ 3 ∧ Policy.default.settleTime ≤ 255 ∧
      1 ≤ Policy.default.sweepDepth ∧ Policy.default.sweepDepth ≤ 8) ∧
    1 < (2 : Byte).toNat ∧ (1 : Byte).toNat ≤ 1 :=
  ⟨array_serves, (fun h => by cases h), by decide⟩

/-- The same of an ARMED job, and of an ACTIVE one without credit for a launch, before a period end and after one. -/
theorem witness_SetPacingAndPolicy_bound :
    (armed .online).Serves (hd 6 15 0 0) ∧ (armed .online).job.state = .armed ∧
    (let s := rebuild .active 4 5 [{ stripe := 4, done := false }]
     s.Serves (hd 6 15 0 0) ∧ s.job.state = .active ∧ s.noLaunch ∧
     ({ s with pacing := { s.pacing with credit := 2, budget := 0 } } : State).noLaunch ∧
     (⟨.fixed, 6, 100, 0, 8, 16⟩ : PacingRecord).budget s.pacing.fg + min s.pacing.credit (s.width - 1) < s.width) :=
  ⟨served (rests (by decide +kernel)) (by decide), by decide, served (rests (by decide +kernel)) (by decide), by decide,
    fun _ => by decide +kernel, fun _ => by decide +kernel, by decide +kernel⟩

/-- A COMMIT_MAP in its drain, with no member request left. -/
def drainedCommit (state : JobState) : State :=
  let s := { array with
    table := [{ newEntry .manage (hd 6 15 0 0) [] with state := .issued }]
    target := { array.target with current := some (6, .draining) } }
  { s with job := { s.job with state } }

theorem witness_MapCommitted :
    array.Serves (hd 6 15 0 0) ∧ array.job.state = .idle ∧ array.drained = true ∧
    (rebuild .active 4 4 []).Serves (hd 6 15 0 0) ∧ (rebuild .active 4 4 []).job.state = .active ∧
    array.target.staged.width = 3 ∧ array.target.staged.stripBlocks ∈ [8, 16, 32, 64] ∧
    (∀ p : PortId, array.target.staged.roles.get p = map3.roles.get p) ∧ map3.valid = true ∧
    ¬ (3 ≤ MemberMap.empty.width) ∧
    (carrying array .read).Serves (hd 6 15 0 0) ∧ (carrying array .read).drained = false ∧
    (∀ state ∈ [JobState.idle, .done, .armed], let s := drainedCommit state
      s.channel.up = true ∧ s.channel.linkFrames = [] ∧ (∀ c, (s.ctx c).stalled = false) ∧
      s.engine.owed = none ∧ (s.entry? 6).map (·.state) = some .issued ∧
      s.target.current = some (6, .draining) ∧ s.target.waiting = [] ∧ s.drained = true ∧ s.settleDue = false ∧
      s.job.state = state) ∧
    array.target.current = none ∧ (committing array).drained = false :=
  ⟨array_serves, by decide, by decide, served (rests (by decide +kernel)) (by decide), by decide, by decide, by decide,
    by decide +kernel, by decide +kernel, by decide,
    serves (takes (rests (by decide +kernel)) (by decide +kernel)) (by decide), by decide +kernel⟩

theorem witness_PortCommands :
    array.Serves (hd 6 15 0 0) ∧ array.width ≤ (3 : Byte).toNat ∧ (2 : Byte).toNat < array.width ∧
    array.portOf (2 : Byte).toNat = some 2 ∧ (array.port 2).health = .online ∧ (array.port 2).bound = false ∧
    (array.port 2).list = [] ∧ (array.port 2).deferred = [] ∧ array.job.state = .idle ∧
    array.target.policy.autoStart = false ∧ degraded.Serves (hd 6 15 0 0) ∧ degraded.portOf (2 : Byte).toNat = some 2 ∧
    (degraded.port 2).health ≠ .online ∧ 9 < (10 : Byte).toNat ∧ (9 : PortId).val = (9 : Byte).toNat ∧
    (rebuild .halted 4 4 []).Serves (hd 6 15 0 0) ∧ (rebuild .halted 4 4 []).job.state.bound = true ∧
    ((rebuild .halted 4 4 []).port 3).bound = true ∧ (rebuild .halted 4 4 []).portOf 2 = some 2 ∧
    (armed .online).Serves (hd 6 15 0 0) ∧ (armed .online).job.state = .armed ∧ (armed .online).job.armed = some 2 ∧
    (armed .online).portOf 2 = some 2 ∧ ((armed .online).port 2).health = .failed ∧
    ((armed .online).port 2).link = true :=
  ⟨array_serves, by decide, by decide, by decide +kernel, by decide +kernel, by decide +kernel, by decide +kernel,
    by decide +kernel, by decide, by decide, served (rests (by decide +kernel)) (by decide), by decide +kernel,
    by decide +kernel, by decide, by decide, served (rests (by decide +kernel)) (by decide), by decide,
    by decide +kernel, by decide +kernel, served (rests (by decide +kernel)) (by decide), by decide +kernel⟩

theorem witness_TakeLost :
    (listing 3).Serves (hd 6 15 0 0) ∧ (0 : Byte).toNat = 0 ∧ 8 < (9 : Byte).toNat ∧ 1 ≤ (1 : Byte).toNat ∧
    (8 : Byte).toNat ≤ 8 ∧ array.Serves (hd 6 15 0 0) ∧ array.lost.entries = [] ∧
    (jobState (listing 3) .paused).Serves (hd 6 15 0 0) ∧ (jobState (listing 3) .paused).lost.entries ≠ [] ∧
    (jobState (listing 3) .paused).job.state = .paused ∧ (jobState (listing 3) .active).noLaunch ∧
    (jobState (listing 3) .active).Serves (hd 6 15 0 0) ∧ (jobState (listing 3) .active).lost.entries ≠ [] ∧
    (jobState (listing 3) .stopped).job.state ≠ .paused ∧ (jobState (listing 3) .stopped).noLaunch :=
  ⟨served (rests (by decide +kernel)) (by decide), by decide, by decide, by decide, by decide, array_serves, by decide,
    served (rests (by decide +kernel)) (by decide), by decide, by decide, fun _ => by decide,
    served (rests (by decide +kernel)) (by decide), by decide, by decide, fun h => by cases h⟩

theorem witness_Resets :
    array.channel.linkFrames = [] ∧ array.Serves (hd 6 15 0 0) ∧
    (next? (exec (.clearSticky (hd 6 15 0 0) []) array)).isSome = true := ⟨by decide, array_serves, by decide +kernel⟩

theorem witness_ChannelResetAndLink :
    ((lastRead .degraded degraded none).ctx 0).origin = .tag 5 ∧
    (∀ tag, ((swept .writing .write false).ctx 0).origin ≠ .tag tag) ∧
    ({ array with channel := { array.channel with up := true } } : State).Rests :=
  have e : ((swept .writing .write false).ctx 0).origin = .window 1 := by decide +kernel
  ⟨by decide +kernel, fun tag h => (by rw [e] at h; cases h), rests (by decide +kernel)⟩

/-! ### The invariants -/

/-- A sweep at work on stripe 1, its command queue not empty: every invariant holds of it, and a step follows. -/
def invariantState : State :=
  let s := sweeping .writing .write false
    (rebuild .active 1 4 [{ stripe := 1, done := false }, { stripe := 3, done := true }])
  { s with lost := { s.lost with reservations := 1 }, pending := [.driveCompletion 3 7 (.good [])] }

theorem invariantState_sweep : invariantState.SweepInv := by
  have h : ∀ c, ((invariantState.ctx c).origin = .window 1 ∧ (c = 0 ∧ (invariantState.ctx c).state ≠ .free ∧
      (invariantState.ctx c).kind = .sweep ∧ (invariantState.ctx c).stripe = 1)) ∨
      (invariantState.ctx c).origin = .noRequest := by decide +kernel
  have worker : ∀ c t, (invariantState.ctx c).origin = .window t → t = 1 ∧ c = 0 ∧ (invariantState.ctx c).state ≠ .free ∧
      (invariantState.ctx c).kind = .sweep ∧ (invariantState.ctx c).stripe = 1 := by
    intro c t ht
    rcases h c with ⟨ho, hc⟩ | ho
    · rw [ho] at ht; cases ht; exact ⟨rfl, hc⟩
    · rw [ho] at ht; cases ht
  refine ⟨by decide +kernel, by decide +kernel, by decide +kernel, fun c t ht => ?_, fun c d t hc hd => ?_,
    by decide +kernel, by decide +kernel, by decide +kernel⟩
  · obtain ⟨rfl, -, hs, hk, hst⟩ := worker c t ht
    exact ⟨hs, hk, hst, by decide +kernel⟩
  · rw [(worker c t hc).2.1, (worker d t hd).2.1]

theorem witness_invariants :
    (next? (step invariantState)).isSome = true ∧ invariantState.MarkInv ∧ invariantState.CursorInv ∧
    invariantState.SweepInv ∧ invariantState.RoleInv ∧ invariantState.QueueInv ∧ invariantState.TableInv ∧
    invariantState.PortInv ∧ invariantState.LockInv := by
  have decided (q : Prop) [Decidable q] (h : decide q = true) : q := of_decide_eq_true h
  refine ⟨by decide +kernel, ?_, ?_, invariantState_sweep, fun p => ?_, ?_, tableInv (by decide +kernel), fun p => ?_, ?_⟩
  · constructor <;> exact decided _ (by decide +kernel)
  · constructor <;> exact decided _ (by decide +kernel)
  · revert p; decide +kernel
  · constructor <;> exact decided _ (by decide +kernel)
  · have h : ∀ p, (invariantState.port p).list.length ≤ Config.listBound ∧
        (invariantState.port p).outstanding ≤ Config.outstandingBound ∧
        (invariantState.port p).errors ≤ Config.errorBound ∧ (invariantState.port p).deferred = [] := by decide +kernel
    exact ⟨(h p).1, (h p).2.1, (h p).2.2.1, by rw [(h p).2.2.2]; decide, by rw [(h p).2.2.2]; decide⟩
  · constructor
    case place => intro e he; cases he
    case owed => intro c hc; cases hc
    all_goals exact decided _ (by decide +kernel)

end Sys2Proof.Tests
end

