-- ==== Sys2Proof/Proofs/DriveLinkUp.lean ====
section
/-! SUPPORT. A link-up indication on a drive port (R28). -/
namespace Sys2Proof.Machine

/-- No change of one port disturbs a quiet bridge: a port's health can only bring on a spare operation that waits for it
(R89), and in a quiet state none waits. -/
theorem State.Quiet.setPort {s : State} (h : s.Quiet) (p : PortId) (x : Port) : (s.setPort p x).Quiet where
  up := h.up
  link := h.link
  commit := h.commit
  stall := h.stall
  timer := h.timer
  owed := h.owed
  tx := h.tx

/-- A command without effects of its own leaves a quiet state as it is. -/
theorem State.Quiet.cascade_nil {s : State} (h : s.Quiet) : cascade [] s = .next s := by
  apply cascade_eq_of_owed h.owed
  rw [List.nil_append, run_end (by decide) h.toRests, s.transmit_of_rests h.tx]

/-- A link-up on a quiet bridge changes the port and brings nothing else (R28). -/
theorem State.Quiet.driveLinkUp {s : State} (h : s.Quiet) (p : PortId) : exec (.driveLinkUp p) s = .next (s.linkUp p) :=
  (h.setPort p _).cascade_nil

/-- The router's offer meets MISSING exactly at a port that is not ONLINE (R18). -/
theorem State.offerForeground_missing_iff (s : State) (p : PortId) (op : DriveOp) :
    (s.offerForeground p op).1 = .missing ↔ (s.port p).health ≠ .online := by
  rcases s.offerForeground_cases p op with ⟨hh, e⟩ | ⟨hh, _, e⟩ | ⟨hh, _, e⟩ <;> simp [e, hh]

/-- `allPorts` names every port. -/
theorem mem_allPorts (p : PortId) : p ∈ allPorts := by
  revert p
  decide

/-- A start finds a spare exactly where some port is SPARE and ONLINE (R36). -/
theorem State.fitSpare_isSome_iff (s : State) :
    s.fitSpare.isSome = true ↔ ∃ p, (s.port p).role = .spare ∧ (s.port p).health = .online := by
  simp [State.fitSpare, List.find?_isSome, mem_allPorts]

end Sys2Proof.Machine

open Sys2Proof Sys2Proof.Machine

/-- Settles O19, by cases on the port's health before the link-up (R28). -/
theorem driveLinkUp : Obligations.DriveLinkUp := by
  intro s p hq health t
  have linkUp_eq : s.linkUp p = t := by
    cases hh : (s.port p).health <;> simp [State.linkUp, t, health, hh]
  refine ⟨linkUp_eq ▸ hq.driveLinkUp p, fun absent => ?_⟩
  have port_eq : t.port p = { s.port p with link := true, health := .online } := by
    simp [t, health, absent]
  constructor
  · intro op missing
    rw [State.offerForeground_missing_iff, port_eq] at missing
    exact missing rfl
  · intro spare
    exact t.fitSpare_isSome_iff.mpr ⟨p, by rw [port_eq]; exact spare, by rw [port_eq]⟩

end

section
/-! SUPPORT. The completion of a forwarded operation: the entry leaves its port, the request is answered (R22, R52). -/
namespace Sys2Proof.Machine

/-! ## The answer of a request and what it leaves due -/

/-- A transmitter with a response before it is not free (R59). -/
theorem Transmitter.busy_ne_idle (x : Transmitter) : x.busy ≠ .idle := by
  cases x <;> simp [Transmitter.busy]

/-- With the link up, the answer to an ISSUED request stands (R41, R58). -/
theorem State.answer_issued {s : State} {tag : Nat} {x : InFlight} (hup : s.channel.up = true)
    (hx : s.entry? tag = some x) (hi : x.state = .issued) (r : Response) :
    s.answer tag r = s.withResponse tag r := by
  have ha : (s.entry? tag).any (·.answerable) = true := by simp [hx, InFlight.answerable, hi]
  rw [State.answer, if_pos ha, State.queueResponse_up _ (by simpa using hup)]
  rfl

/-- The transmitter that sends a response, or has one to follow its frame, begins nothing else (R59). -/
theorem State.transmit_withResponse (s : State) (tag : Nat) (r : Response) :
    (s.withResponse tag r).transmit = s.withResponse tag r :=
  (s.withResponse tag r).transmit_of_rests fun h => absurd h (Transmitter.busy_ne_idle _)

/-- The issue rule does not read the in-flight table or the response queue (R20). -/
theorem State.issue_withResponse (s : State) (p : PortId) (tag : Nat) (r : Response) :
    (s.withResponse tag r).issue p = (s.issue p).withResponse tag r := by
  by_cases h : (s.port p).health = .online
  · have h' : ((s.withResponse tag r).port p).health = .online := h
    simp only [State.issue, if_pos h, if_pos h']
    rfl
  · have h' : ¬ ((s.withResponse tag r).port p).health = .online := h
    simp only [State.issue, if_neg h, if_neg h']

/-- No report is due to a COMMIT_MAP where none is in its drain (R45). -/
theorem State.commitReady_of_not_committing {s : State} (h : s.committing = false) : s.commitReady = none := by
  unfold State.commitReady
  split
  · rename_i tag hc
    simp [State.committing, hc] at h
  · rfl

/-- The end of the step in which a bridge at rest, with no commit in its drain, has answered a request. -/
theorem run_end_withResponse {n : Nat} (hn : 0 < n) {s : State} (hs : s.Rests) (hc : s.committing = false) (tag : Nat)
    (r : Response) : run n [.settle] (s.withResponse tag r) = some (s.withResponse tag r) := by
  have commit : (s.withResponse tag r).commitReady = none := State.commitReady_of_not_committing hc
  rw [run_settle (s := s.withResponse tag r) hn hs.link commit hs.stall hs.timer, State.transmit_withResponse]

/-! ## The departure of an operation -/

/-- A departure that no DRAINING lock counts brings the raise of the error count, where one is due, and the delivery
(R23, R65). -/
theorem State.departed_of_no_drain {s : State} {op : DriveOp} (h : ∀ l ∈ s.slt.locks, l.drains op.addr = false)
    (p : PortId) (out : Outcome) (raise : Bool) :
    s.departed p op out raise = ((if raise then [.countError p] else []) ++ [.deliver p op out], s) := by
  have report : s.drainReport op.addr = ([], s) := by
    rcases s.drainReport_cases op.addr with ⟨-, e⟩ | ⟨l, hl, hd, -⟩
    · exact e
    · rw [h l hl] at hd
      cases hd
  rw [State.departed_eq, report]
  cases op.fgWrite <;> rfl

/-- With no operation deferred at the port, the issue rule is all that follows a departure (R19, R20). -/
theorem State.afterDeparture_of_no_deferred {s : State} {p : PortId} (h : (s.port p).deferred = []) :
    s.afterDeparture p = s.issue p := by
  obtain ⟨list, nextId, hs, -⟩ := s.issue_spec p
  have hd : ((s.issue p).port p).deferred = [] := by rw [hs, State.port_setPort_self]; exact h
  simp only [State.afterDeparture, hd]

/-- A bridge at rest, with no commit in its drain, is so still once an entry has left port p (R20, R22). -/
theorem State.Rests.left {s : State} (h : s.Rests) (hc : s.committing = false) (p : PortId) (id errors : Nat) :
    (s.left p id errors).Rests ∧ (s.left p id errors).committing = false := by
  have committing : (s.left p id errors).committing = false := by simpa [State.left, State.committing] using hc
  have engine : (s.left p id errors).engine = s.engine := by simp [State.left]
  exact ⟨{ up := by simpa [State.left] using h.up
           link := by simpa [State.left] using h.link
           commit := State.commitReady_of_not_committing committing
           stall := fun c => by rw [State.ctx_congr (congrArg Engine.ctxs engine) c]; exact h.stall c
           timer := by simpa [State.left, State.settleDue] using h.timer
           owed := by rw [engine]; exact h.owed }, committing⟩

/-! ## The completion of a forwarded operation -/

/-- The effects of a completion that is delivered as no FAULT: the entry leaves its list, the outcome is delivered, and
the port goes on (R22). -/
theorem State.Carries.driveCompletion {s : State} {p : PortId} {id : Nat} {e : ListEntry} {x : InFlight}
    (h : s.Carries p id e x) {report : Report} {out : Outcome} (hn : normalise p id e.op report = out)
    (hf : out ≠ .fault) :
    s.driveCompletion p id report =
      ([.deliver p e.op out, .afterDeparture p], s.setPort p ((s.port p).without id)) := by
  have drains : ∀ l ∈ (s.setPort p ((s.port p).without id)).slt.locks, l.drains e.op.addr = false := h.drains
  simp only [State.driveCompletion, h.entry, hn, State.departed_of_no_drain drains, hf]
  rfl

/-- A forwarded operation whose completion the router answers at once: its entry leaves the port, the oldest waiting
entry takes its place at the drive, and its request is answered, nothing else (R20, R22, R52, R54). -/
theorem State.Carries.exec_completion {s : State} {p : PortId} {id : Nat} {e : ListEntry} {x : InFlight}
    (h : s.Carries p id e x) {report : Report} {out : Outcome} {r : Response}
    (hn : normalise p id e.op report = out) (hf : out ≠ .fault)
    (ha : ∀ u : State, u.entry? x.tag = some x → u.routerOutcome x.tag p e.op out = ([], u.answer x.tag r)) :
    exec (.driveCompletion p id report) s =
      .next ((s.left p id (s.port p).errors).withResponse x.tag r) := by
  let u := s.setPort p ((s.port p).without id)
  have request : u.entry? x.tag = some x := h.request
  have up : u.channel.up = true := h.up
  have deliver : handle (.deliver p e.op out) u = ([], u.withResponse x.tag r) := by
    have answer : u.answer x.tag r = u.withResponse x.tag r := State.answer_issued up request h.issued r
    simp only [handle, State.deliver, h.orig, ha u request, answer]
  have after : handle (.afterDeparture p) (u.withResponse x.tag r) = ([], (u.issue p).withResponse x.tag r) := by
    have deferred : ((u.withResponse x.tag r).port p).deferred = [] := by
      show (u.port p).deferred = []
      rw [State.port_setPort_self]
      exact h.deferred
    simp only [handle, State.afterDeparture_of_no_deferred deferred, State.issue_withResponse]
  obtain ⟨rests, noCommit⟩ := h.toRests.left h.noCommit p id (s.port p).errors
  have found : ((s.port p).outstanding? id).isSome = true := by rw [h.entry]; rfl
  show execDriveCompletion p id report s = _
  rw [execDriveCompletion, if_pos found, h.driveCompletion hn hf]
  apply cascade_eq_of_owed (s := u) h.owed
  simp only [List.cons_append, List.nil_append]
  rw [run_step (by decide) deliver, List.nil_append, run_step (by decide) after, List.nil_append]
  exact run_end_withResponse (by decide) rests noCommit x.tag r

/-- A GOOD outcome answers its ISSUED request GOOD, with data for a READ alone (R52). -/
theorem State.routerOutcome_good {s : State} {tag : Nat} {x : InFlight} (hx : s.entry? tag = some x)
    (hi : x.state = .issued) (p : PortId) (op : DriveOp) (data : List Sector) :
    s.routerOutcome tag p op (.good data) =
      ([], s.answer tag { status := .good, payload := if x.op = .read then .sectors data else .none }) := by
  simp [State.routerOutcome, hx, hi]

/-- A forwarded operation that completes GOOD, its data as the bridge takes it (R22, R52). -/
theorem State.Carries.exec_good {s : State} {p : PortId} {id : Nat} {e : ListEntry} {x : InFlight}
    (h : s.Carries p id e x) {report : Report} {data : List Sector}
    (hn : normalise p id e.op report = .good data) :
    exec (.driveCompletion p id report) s = .next ((s.left p id (s.port p).errors).withResponse x.tag
      { status := .good, payload := if x.op = .read then .sectors data else .none }) :=
  h.exec_completion hn (by simp) fun _ hu => State.routerOutcome_good hu h.issued p e.op data

/-- A GOOD completion of a READ with all its sectors brings them as they stand (R22). -/
theorem normalise_good_read {op : DriveOp} (hk : op.kind = .read) {data : List Sector}
    (hl : data.length = 8 * op.count) (p : PortId) (id : Nat) : normalise p id op (.good data) = .good data := by
  simp [normalise, hk, fitData, hl]

/-- A GOOD completion of any other operation brings no data (R22). -/
theorem normalise_good_other {op : DriveOp} (hk : op.kind ≠ .read) (p : PortId) (id : Nat) (data : List Sector) :
    normalise p id op (.good data) = .good [] := by
  simp [normalise, hk]

end Sys2Proof.Machine

open Sys2Proof Sys2Proof.Machine

/-- Settles O21: a GOOD completion stays GOOD (R22), and the router answers by the request's operation (R52). -/
theorem forwardedGood : Obligations.ForwardedGood := by
  intro s p id e x data h t
  constructor
  · intro hop hkind hlen
    have result := h.exec_good (normalise_good_read hkind hlen p id)
    rwa [if_pos hop] at result
  · intro hop
    have kind_ne : e.op.kind ≠ .read := by rcases hop with ⟨-, hk⟩ | ⟨-, hk⟩ <;> simp [hk]
    have op_ne : x.op ≠ .read := by rcases hop with ⟨hx, -⟩ | ⟨hx, -⟩ <;> simp [hx]
    have result := h.exec_good (normalise_good_other kind_ne p id data)
    rwa [if_neg op_ne] at result

end

section
/-! SUPPORT. The budget of a pacing record in each mode, and its bounds (R125). -/
namespace Sys2Proof.Machine

namespace PacingRecord

variable {r : PacingRecord}

/-- Mode FIXED (R125). -/
theorem budget_of_fixed (h : r.mode = .fixed) (fg : Nat) : r.budget fg = r.share := by
  rw [budget, h]

/-- Mode BURST (R125). -/
theorem budget_of_burst (h : r.mode = .burst) (fg : Nat) : r.budget fg = 1023 := by
  rw [budget, h]

/-- Mode YIELD (R125): the model's comparison of F plus the deduction with Share picks the greater of the two amounts. -/
theorem budget_of_yield (h : r.mode = .yield) (fg : Nat) :
    r.budget fg = max (r.share - fg * r.weight / 16) (min r.floor r.share) := by
  simp only [budget, h]
  split
  case isTrue fits => exact (max_eq_left (Nat.le_sub_of_add_le fits)).symm
  case isFalse exceeds => exact (max_eq_right (by omega)).symm

/-- In YIELD the clamped Floor bounds the budget from below, whatever the deduction (R125). -/
theorem le_budget_of_yield (h : r.mode = .yield) (fg : Nat) : min r.floor r.share ≤ r.budget fg := by
  rw [budget_of_yield h]
  exact le_max_right _ _

/-- In YIELD Share bounds the budget from above: both amounts it is chosen from do not exceed Share (R125). -/
theorem budget_le_share_of_yield (h : r.mode = .yield) (fg : Nat) : r.budget fg ≤ r.share := by
  rw [budget_of_yield h]
  exact max_le (Nat.sub_le _ _) (min_le_right _ _)

/-- A Share within its field's range keeps every budget within that range (R125). -/
theorem budget_le_of_share_le (h : r.share ≤ 1023) (fg : Nat) : r.budget fg ≤ 1023 := by
  cases hm : r.mode with
  | fixed => exact (budget_of_fixed hm fg).trans_le h
  | yield => exact (budget_le_share_of_yield hm fg).trans h
  | burst => exact (budget_of_burst hm fg).le

end PacingRecord

end Sys2Proof.Machine

open Sys2Proof Sys2Proof.Machine

/-- Settles O41, mode by mode (R125); the carry is the model's own equation (R126). -/
theorem budgetAndCarry : Obligations.BudgetAndCarry := fun _ fg =>
  ⟨fun fixed => PacingRecord.budget_of_fixed fixed fg,
   fun yields => PacingRecord.budget_of_yield yields fg,
   fun burst => PacingRecord.budget_of_burst burst fg,
   fun yields => ⟨PacingRecord.le_budget_of_yield yields fg, PacingRecord.budget_le_share_of_yield yields fg⟩,
   fun inRange => PacingRecord.budget_le_of_share_le inRange fg,
   fun _ _ => rfl⟩

end

section
/-! SUPPORT. What an offer does to the notice queue, case by case, and what forming a notice makes of it (R149 to R151). -/
namespace Sys2Proof.Machine

/-- The two progress kinds are MILESTONE and LOST_ADDED (R151). -/
theorem Notice.progress_iff (n : Notice) :
    n.progress = true ↔ (∃ tag w, n = .milestone tag w) ∨ (∃ t k, n = .lostAdded t k) := by
  cases n <;> simp [Notice.progress]

/-! ## The offer to the queue -/

section Offer

variable {queue : List Notice} {n : Notice}

/-- A queue with room takes the notice at its end, and none is lost (R150). -/
theorem offerNotice_of_room (room : queue.length < 16) : offerNotice queue n = (queue ++ [n], false) :=
  if_pos room

/-- A full queue discards a progress notice (R151). -/
theorem offerNotice_of_full_progress (full : 16 ≤ queue.length) (hn : n.progress = true) :
    offerNotice queue n = (queue, true) := by
  rw [offerNotice, if_neg full.not_gt, if_pos hn]

/-- A full queue without a progress notice to displace discards any notice (R151). -/
theorem offerNotice_of_full_no_progress (full : 16 ≤ queue.length) (noProgress : ∀ x ∈ queue, ¬ x.progress = true) :
    offerNotice queue n = (queue, true) := by
  have hany : ¬ queue.any Notice.progress = true := by simpa using noProgress
  rw [offerNotice, if_neg full.not_gt, if_neg hany, ite_self]

/-- In a full queue a notice of any other kind displaces the oldest progress notice (R151). -/
theorem offerNotice_of_full_displaces {before after : List Notice} {oldest : Notice}
    (full : 16 ≤ (before ++ oldest :: after).length) (hn : ¬ n.progress = true) (hold : oldest.progress = true)
    (hbefore : ∀ x ∈ before, ¬ x.progress = true) :
    offerNotice (before ++ oldest :: after) n = (before ++ after ++ [n], true) := by
  have hany : (before ++ oldest :: after).any Notice.progress = true := by simp [hold]
  have erased : (before ++ oldest :: after).eraseP Notice.progress = before ++ after := by
    rw [List.eraseP_append_right _ hbefore, List.eraseP_cons_of_pos hold]
  rw [offerNotice, if_neg full.not_gt, if_neg hn, if_pos hany, erased]

end Offer

/-! ## The formed notice -/

/-- A notice of a disabled kind changes nothing (R149). -/
theorem State.notify_of_disabled {s : State} {n : Notice} (disabled : s.notices.mask.getLsbD n.maskBit = false) :
    s.notify n = s := by
  rcases s.notify_cases n with ⟨-, e⟩ | ⟨enabled, -⟩
  · exact e
  · rw [disabled] at enabled
    cases enabled

/-- A notice of an enabled kind has the outcome of its offer, a loss added to the flag, and the transmitter chooses
again (R59, R150, R151). -/
theorem State.notify_of_enabled {s : State} {n : Notice} (enabled : s.notices.mask.getLsbD n.maskBit = true)
    {queue : List Notice} {lost : Bool} (offer : offerNotice s.notices.queue n = (queue, lost)) :
    s.notify n = { s with notices := { s.notices with queue, lost := s.notices.lost || lost } }.transmit := by
  rcases s.notify_cases n with ⟨disabled, -⟩ | ⟨-, e⟩
  · rw [enabled] at disabled
    cases disabled
  · rw [e, offer]

/-- A notice lost in its offer sets the notices-lost flag (R151). -/
theorem State.notify_of_lost {s : State} {n : Notice} (enabled : s.notices.mask.getLsbD n.maskBit = true)
    {queue : List Notice} (offer : offerNotice s.notices.queue n = (queue, true)) :
    s.notify n = { s with notices := { s.notices with queue, lost := true } }.transmit := by
  rw [State.notify_of_enabled enabled offer, Bool.or_true]

end Sys2Proof.Machine

open Sys2Proof Sys2Proof.Machine

/-- Settles O44, by the mask (R149), the room in the queue (R150) and the kind of the notice (R151). -/
theorem noticeOffered : Obligations.NoticeOffered := by
  intro s n progress held full
  have progress_iff (x : Notice) : x.progress = true ↔ progress x := x.progress_iff
  refine ⟨State.notify_of_disabled, fun enabled => ⟨fun room => ?_, fun hfull hn => ?_, fun hfull _ noProgress => ?_,
    fun hfull hn before oldest after hq hold hbefore => ?_⟩⟩
  · rw [State.notify_of_enabled enabled (offerNotice_of_room (not_le.mp room)), Bool.or_false]
  · exact State.notify_of_lost enabled (offerNotice_of_full_progress hfull ((progress_iff n).mpr hn))
  · simp only [← progress_iff] at noProgress
    exact State.notify_of_lost enabled (offerNotice_of_full_no_progress hfull noProgress)
  · simp only [← progress_iff] at hn hold hbefore
    have offer : offerNotice s.notices.queue n = (before ++ after ++ [n], true) := by
      rw [hq]
      exact offerNotice_of_full_displaces (hq ▸ hfull) hn hold hbefore
    exact State.notify_of_lost enabled offer

end

section
/-! SUPPORT. What freeing contexts writes, as one equation, and what it leaves as it was (R69). -/
namespace Sys2Proof.Machine

/-! ## Folds over tags and contexts -/

/-- One change of several entries, one after another, as one change of the table. -/
theorem State.foldl_setEntry {f : InFlight → InFlight} (htag : ∀ e, (f e).tag = e.tag) (hidem : ∀ e, f (f e) = f e)
    (tags : List Nat) (s : State) :
    tags.foldl (fun t tag => t.setEntry tag f) s =
      { s with table := s.table.map (fun e => if e.tag ∈ tags then f e else e) } := by
  induction tags generalizing s with
  | nil => simp
  | cons tag tags ih =>
    rw [List.foldl_cons, ih]
    simp only [State.setEntry, List.map_map]
    congr 2
    funext e
    by_cases h : e.tag = tag <;> by_cases h' : e.tag ∈ tags <;> simp [h, h', htag, hidem]

/-- A request that went back to ROUTING keeps its tag. -/
@[simp] theorem InFlight.toRouting_tag (st : ReqState) (e : InFlight) : (e.toRouting st).tag = e.tag := by
  unfold InFlight.toRouting; split <;> rfl

/-- A second return to ROUTING changes nothing. -/
@[simp] theorem InFlight.toRouting_toRouting (st : ReqState) (e : InFlight) :
    (e.toRouting st).toRouting st = e.toRouting st := by
  by_cases h : e.state = st
  · by_cases hr : ReqState.routing = st <;> simp [InFlight.toRouting, h, hr]
  · simp [InFlight.toRouting, h]

/-- The contexts once those in `cs` are blank. -/
def State.blanked (s : State) (cs : List CtxId) : Vector Context 8 :=
  Vector.ofFn (fun c => if c ∈ cs then .blank (s.ctx c).serial else s.ctx c)

/-- Several contexts blanked, one after another, as one change of the engine. -/
theorem State.foldl_blank (cs : List CtxId) (s : State) :
    cs.foldl (fun t c => t.setCtx c (.blank (t.ctx c).serial)) s =
      { s with engine := { s.engine with ctxs := s.blanked cs } } := by
  induction cs generalizing s with
  | nil =>
    have : s.blanked [] = s.engine.ctxs := by
      apply Vector.ext; intro i hi; simp [State.blanked, State.ctx, Vector.get]
    simp [this]
  | cons d cs ih =>
    rw [List.foldl_cons, ih]
    have : (s.setCtx d (.blank (s.ctx d).serial)).blanked cs = s.blanked (d :: cs) := by
      apply Vector.ext
      intro i hi
      by_cases h : d = ⟨i, hi⟩
      · subst h
        by_cases h' : (⟨i, hi⟩ : CtxId) ∈ cs <;> simp [State.blanked, h', Context.blank]
      · simp [State.blanked, h, Ne.symm h]
    simp only [this]
    rfl

/-! ## Freeing -/

/-- Freeing contexts (R69), as one equation. -/
theorem State.freeCtxs_eq (s : State) (cs : List CtxId) : s.freeCtxs cs =
    { s with
      table := s.table.map (fun e => if e.tag ∈ s.heldBy cs then e.toRouting .held else e)
      slt := { locks := s.slt.locks.filter (fun l => !cs.contains l.ctx)
               held := s.slt.held.filter (fun h => !cs.contains h.lock) }
      engine := { s.engine with
        ctxs := s.blanked cs, owed := s.engine.owed.filter (fun c => !cs.contains c) } } := by
  unfold State.freeCtxs
  dsimp only
  rw [State.foldl_blank, State.foldl_setEntry (InFlight.toRouting_tag _) (InFlight.toRouting_toRouting _)]
  rfl

variable (s : State) (cs : List CtxId)

@[simp] theorem State.freeCtxs_now : (s.freeCtxs cs).now = s.now := by rw [freeCtxs_eq]
@[simp] theorem State.freeCtxs_channel : (s.freeCtxs cs).channel = s.channel := by rw [freeCtxs_eq]
@[simp] theorem State.freeCtxs_ports : (s.freeCtxs cs).ports = s.ports := by rw [freeCtxs_eq]
@[simp] theorem State.freeCtxs_job : (s.freeCtxs cs).job = s.job := by rw [freeCtxs_eq]
@[simp] theorem State.freeCtxs_pacing : (s.freeCtxs cs).pacing = s.pacing := by rw [freeCtxs_eq]
@[simp] theorem State.freeCtxs_lost : (s.freeCtxs cs).lost = s.lost := by rw [freeCtxs_eq]
@[simp] theorem State.freeCtxs_notices : (s.freeCtxs cs).notices = s.notices := by rw [freeCtxs_eq]
@[simp] theorem State.freeCtxs_target : (s.freeCtxs cs).target = s.target := by rw [freeCtxs_eq]
@[simp] theorem State.freeCtxs_pending : (s.freeCtxs cs).pending = s.pending := by rw [freeCtxs_eq]

/-- A freed context is blank, any other stands. -/
theorem State.ctx_freeCtxs (c : CtxId) :
    (s.freeCtxs cs).ctx c = if c ∈ cs then .blank (s.ctx c).serial else s.ctx c := by
  rw [freeCtxs_eq]
  simp [State.ctx_eq, State.blanked]

end Sys2Proof.Machine
end

section
/-! SUPPORT. The changes that leave the rebuild job as it was, with the roles, the bound marks and the work of the
SWEEP contexts: all but a few effects are of this kind. -/
namespace Sys2Proof.Machine

/-! ## The relation -/

/-- A context that works for a window entry is a SWEEP context in use (R90, R107). -/
def State.Workers (s : State) : Prop :=
  ∀ c u, (s.ctx c).origin = .window u → (s.ctx c).state ≠ .free ∧ (s.ctx c).kind = .sweep

/-- Context y does the work of x for the sweep window: the same entry, the same stripe, or none as x. -/
structure Context.WorksAs (y x : Context) : Prop where
  back : ∀ u, y.origin = .window u → x.origin = .window u
  forth : ∀ u, x.origin = .window u →
    y.origin = .window u ∧ y.stripe = x.stripe ∧ y.kind = x.kind ∧ (x.state ≠ .free → y.state ≠ .free)

/-- State t has the job, the roles, the marks, the list of lost blocks and the sweep's work of s. Entries may have been
taken out of the lost block list. -/
structure State.KeepsJob (s t : State) : Prop where
  role : ∀ p, (t.port p).role = (s.port p).role
  bound : ∀ p, (t.port p).bound = (s.port p).bound
  committed : t.target.committed = s.target.committed
  depth : s.target.policy.sweepDepth ≤ 8 → t.target.policy.sweepDepth ≤ 8
  state : t.job.state = s.job.state
  target : t.job.target = s.job.target
  spare : t.job.spare = s.job.spare
  w : t.job.w = s.job.w
  n : t.job.n = s.job.n
  window : t.job.window = s.job.window
  reservations : t.lost.reservations = s.lost.reservations
  entries : t.lost.entries.length ≤ s.lost.entries.length
  ctxs : s.Workers → ∀ c, (t.ctx c).WorksAs (s.ctx c)

theorem Context.WorksAs.refl (x : Context) : x.WorksAs x := ⟨fun _ h => h, fun _ h => ⟨h, rfl, rfl, id⟩⟩

theorem Context.WorksAs.trans {x y z : Context} (h : z.WorksAs y) (g : y.WorksAs x) : z.WorksAs x where
  back u hu := g.back u (h.back u hu)
  forth u hu := by
    obtain ⟨h1, h2, h3, h4⟩ := g.forth u hu
    obtain ⟨g1, g2, g3, g4⟩ := h.forth u h1
    exact ⟨g1, g2.trans h2, g3.trans h3, fun hx => g4 (h4 hx)⟩

/-- A context that keeps its origin, stripe and kind, and stays in use, does its work. -/
theorem Context.WorksAs.of_eq {x y : Context} (origin : y.origin = x.origin) (stripe : y.stripe = x.stripe)
    (kind : y.kind = x.kind) (state : x.state ≠ .free → y.state ≠ .free) : y.WorksAs x :=
  ⟨fun _ h => origin ▸ h, fun _ h => ⟨origin ▸ h, stripe, kind, state⟩⟩

/-- Two contexts without a window entry have no work between them. -/
theorem Context.WorksAs.of_none {x y : Context} (hx : ∀ u, x.origin ≠ .window u) (hy : ∀ u, y.origin ≠ .window u) :
    y.WorksAs x :=
  ⟨fun u h => absurd h (hy u), fun u h => absurd h (hx u)⟩

theorem State.KeepsJob.refl (s : State) : s.KeepsJob s :=
  ⟨fun _ => rfl, fun _ => rfl, rfl, id, rfl, rfl, rfl, rfl, rfl, rfl, rfl, le_rfl, fun _ _ => .refl _⟩

theorem State.KeepsJob.workers {s t : State} (h : s.KeepsJob t) (hs : s.Workers) : t.Workers := by
  intro c u hu
  have work := h.ctxs hs c
  obtain ⟨-, -, hk, hf⟩ := work.forth u (work.back u hu)
  obtain ⟨gs, gk⟩ := hs c u (work.back u hu)
  exact ⟨hf gs, hk.trans gk⟩

theorem State.KeepsJob.trans {s t u : State} (h : s.KeepsJob t) (g : t.KeepsJob u) : s.KeepsJob u where
  role p := (g.role p).trans (h.role p)
  bound p := (g.bound p).trans (h.bound p)
  committed := g.committed.trans h.committed
  depth hd := g.depth (h.depth hd)
  state := g.state.trans h.state
  target := g.target.trans h.target
  spare := g.spare.trans h.spare
  w := g.w.trans h.w
  n := g.n.trans h.n
  window := g.window.trans h.window
  reservations := g.reservations.trans h.reservations
  entries := g.entries.trans h.entries
  ctxs hs c := (g.ctxs (h.workers hs) c).trans (h.ctxs hs c)

/-- A change of none of the blocks concerned keeps the job. -/
theorem State.KeepsJob.of_frame {s t : State} (ports : t.ports = s.ports := by simp)
    (ctxs : t.engine.ctxs = s.engine.ctxs := by simp) (committed : t.target.committed = s.target.committed := by simp)
    (policy : t.target.policy = s.target.policy := by simp)
    (job : t.job.state = s.job.state ∧ t.job.target = s.job.target ∧ t.job.spare = s.job.spare ∧ t.job.w = s.job.w ∧
      t.job.n = s.job.n ∧ t.job.window = s.job.window := by simp) (lost : t.lost = s.lost := by simp) :
    s.KeepsJob t := by
  obtain ⟨state, target, spare, w, n, window⟩ := job
  exact {
    role := fun p => by rw [State.port_congr ports]
    bound := fun p => by rw [State.port_congr ports]
    committed, state, target, spare, w, n, window
    depth := fun h => policy ▸ h
    reservations := by rw [lost]
    entries := by rw [lost]
    ctxs := fun _ c => by rw [State.ctx_congr ctxs]; exact .refl _ }

/-! ## Ports and contexts -/

/-- A port with its role and its mark as they were. -/
theorem State.KeepsJob.setPort (s : State) (p : PortId) {x : Port} (role : x.role = (s.port p).role)
    (bound : x.bound = (s.port p).bound) : s.KeepsJob (s.setPort p x) :=
  { State.KeepsJob.refl s with
    role := fun q => by rw [State.port_setPort]; split <;> simp_all
    bound := fun q => by rw [State.port_setPort]; split <;> simp_all }

/-- Every port with its role and its mark as they were. -/
theorem State.KeepsJob.mapPorts (s : State) {f : Port → Port} (role : ∀ x, (f x).role = x.role)
    (bound : ∀ x, (f x).bound = x.bound) : s.KeepsJob (s.mapPorts f) :=
  { State.KeepsJob.refl s with
    role := fun q => by rw [State.port_mapPorts, role]
    bound := fun q => by rw [State.port_mapPorts, bound] }

/-- A change of a port's list, link, health or count before a change of this kind. -/
theorem State.KeepsJob.after_setPort {s t : State} {p : PortId} {x : Port} (h : (s.setPort p x).KeepsJob t)
    (role : x.role = (s.port p).role := by rfl) (bound : x.bound = (s.port p).bound := by rfl) : s.KeepsJob t :=
  (State.KeepsJob.setPort s p role bound).trans h

/-- A context that goes on with its work. -/
theorem State.KeepsJob.setCtx (s : State) (c : CtxId) {x : Context} (work : s.Workers → x.WorksAs (s.ctx c)) :
    s.KeepsJob (s.setCtx c x) :=
  { State.KeepsJob.refl s with
    ctxs := fun hs d => by
      rw [State.ctx_setCtx]
      split
      · next h => subst h; exact work hs
      · exact .refl _ }

/-- A context that goes on with its work before a change of this kind. -/
theorem State.KeepsJob.after_setCtx {s t : State} {c : CtxId} {x : Context} (h : (s.setCtx c x).KeepsJob t)
    (origin : x.origin = (s.ctx c).origin := by rfl) (stripe : x.stripe = (s.ctx c).stripe := by rfl)
    (kind : x.kind = (s.ctx c).kind := by rfl) (state : (s.ctx c).state ≠ .free → x.state ≠ .free := by simp) :
    s.KeepsJob t :=
  (State.KeepsJob.setCtx s c fun _ => .of_eq origin stripe kind state).trans h

/-- A blank context works for no window entry. -/
theorem Context.blank_no_window (n u : Nat) : (Context.blank n).origin ≠ .window u := by simp [Context.blank]

theorem State.issue_keepsJob (s : State) (p : PortId) : s.KeepsJob (s.issue p) := by
  obtain ⟨list, nextId, h, -⟩ := s.issue_spec p
  rw [h]
  exact .setPort s p rfl rfl

theorem State.enlist_keepsJob (s : State) (p : PortId) (op : DriveOp) : s.KeepsJob (s.enlist p op) := by
  obtain ⟨list, nextId, h, -⟩ := s.enlist_spec p op
  rw [h]
  exact .setPort s p rfl rfl

theorem State.countForeground_keepsJob (s : State) : s.KeepsJob s.countForeground := .of_frame

theorem State.countContext_keepsJob (s : State) (c : CtxId) : s.KeepsJob (s.countContext c) := by
  unfold State.countContext
  split
  · exact .refl s
  · exact s.countForeground_keepsJob

theorem State.offerForeground_keepsJob (s : State) (p : PortId) (op : DriveOp) :
    s.KeepsJob (s.offerForeground p op).2 := by
  rcases s.offerForeground_cases p op with ⟨-, e⟩ | ⟨-, -, e⟩ | ⟨-, -, e⟩ <;> rw [e]
  · exact .refl s
  · exact (s.enlist_keepsJob p op).trans (State.countForeground_keepsJob _)
  · exact .refl s

theorem State.offerContext_keepsJob (s : State) (c : CtxId) (p : PortId) (op : DriveOp) :
    s.KeepsJob (s.offerContext c p op).2 := by
  rcases s.offerContext_cases c p op with ⟨-, e⟩ | ⟨-, -, e⟩ | ⟨-, -, -, e⟩ | ⟨-, -, -, e⟩ <;> rw [e]
  · exact .refl s
  · exact (s.enlist_keepsJob p op).trans (State.countContext_keepsJob _ c)
  · exact .setPort s p rfl rfl
  · exact .refl s

theorem State.afterDeparture_keepsJob (s : State) (p : PortId) : s.KeepsJob (s.afterDeparture p) := by
  have issued := s.issue_keepsJob p
  unfold State.afterDeparture
  dsimp only
  split
  · exact issued
  · next op rest _ =>
    have joined : s.KeepsJob (((s.issue p).setPort p { (s.issue p).port p with deferred := rest }).enlist p op) :=
      issued.trans (State.enlist_keepsJob _ p op).after_setPort
    split
    · split
      · exact joined.trans (State.countContext_keepsJob _ _)
      all_goals exact joined
    · exact issued

theorem State.drainReport_keepsJob (s : State) (addr : Nat) : s.KeepsJob (s.drainReport addr).2 := by
  rcases s.drainReport_cases addr with ⟨-, e⟩ | ⟨l, -, -, ⟨-, e⟩ | ⟨-, e⟩⟩ <;> rw [e]
  · exact .refl s
  all_goals exact .of_frame rfl rfl rfl rfl ⟨rfl, rfl, rfl, rfl, rfl, rfl⟩ rfl

theorem State.departed_keepsJob (s : State) (p : PortId) (op : DriveOp) (out : Outcome) (raise : Bool) :
    s.KeepsJob (s.departed p op out raise).2 := by
  rw [State.departed_eq]
  dsimp only
  split
  · exact s.drainReport_keepsJob op.addr
  · exact .refl s

theorem State.driveCompletion_keepsJob (s : State) (p : PortId) (id : Nat) (r : Report) :
    s.KeepsJob (s.driveCompletion p id r).2 := by
  unfold State.driveCompletion
  split
  · exact .refl s
  · dsimp only
    exact (State.departed_keepsJob _ p _ _ _).after_setPort

theorem State.advanceTo_keepsJob (s : State) (n : Nat) : s.KeepsJob (s.advanceTo n) := .of_frame

theorem State.driveTimeout_keepsJob (s : State) (p : PortId) (id : Nat) : s.KeepsJob (s.driveTimeout p id).2 := by
  unfold State.driveTimeout
  split
  · exact .refl s
  · dsimp only
    exact ((State.advanceTo_keepsJob _ _).trans (State.departed_keepsJob _ p _ _ _)).after_setPort

theorem State.emptyList_keepsJob (s : State) (p : PortId) : s.KeepsJob (s.emptyList p).2 := by
  unfold State.emptyList
  split
  · exact .refl s
  · dsimp only
    exact (State.departed_keepsJob _ p _ _ _).after_setPort

theorem State.emptyWaiting_keepsJob (s : State) (p : PortId) : s.KeepsJob (s.emptyWaiting p).2 := by
  unfold State.emptyWaiting
  split
  · exact .refl s
  · dsimp only
    exact (State.departed_keepsJob _ p _ _ _).after_setPort

theorem State.emptyDeferred_keepsJob (s : State) (p : PortId) : s.KeepsJob (s.emptyDeferred p).2 := by
  unfold State.emptyDeferred
  split
  · exact .refl s
  · exact .setPort s p rfl rfl

theorem State.failPort_keepsJob (s : State) (p : PortId) (reason : FailReason) :
    s.KeepsJob (s.failPort p reason).2 := by
  unfold State.failPort
  dsimp only
  split
  · exact .setPort s p rfl rfl
  · exact State.KeepsJob.after_setPort (p := p) (x := { s.port p with health := .failed }) .of_frame

theorem State.countError_keepsJob (s : State) (p : PortId) : s.KeepsJob (s.countError p).2 := by
  unfold State.countError
  dsimp only
  split
  · exact (State.failPort_keepsJob _ p _).after_setPort
  · exact .setPort s p rfl rfl

theorem State.linkDown_keepsJob (s : State) (p : PortId) : s.KeepsJob (s.linkDown p).2 := by
  have down : s.KeepsJob (s.setPort p { s.port p with link := false }) := .setPort s p rfl rfl
  unfold State.linkDown
  dsimp only
  split
  · split
    · exact down.trans (State.failPort_keepsJob _ p _)
    · exact down.trans (.setPort _ p rfl rfl)
  · exact down

theorem State.linkUp_keepsJob (s : State) (p : PortId) : s.KeepsJob (s.linkUp p) := .setPort s p rfl rfl

/-! ## The router and the ends of contexts -/

theorem State.hold_keepsJob (s : State) (tag stripe : Nat) : s.KeepsJob (s.hold tag stripe) := by
  rcases s.hold_cases tag stripe with ⟨c, -, -, e⟩ | e <;> rw [e] <;> exact .of_frame

/-- Contexts that work for no window entry may go FREE after a change of this kind. -/
theorem State.KeepsJob.freeCtxs {s t : State} (h : s.KeepsJob t) {cs : List CtxId}
    (idle : s.Workers → ∀ c ∈ cs, ∀ u, (s.ctx c).origin ≠ .window u) : s.KeepsJob (t.freeCtxs cs) :=
  { h.trans (.of_frame (ctxs := rfl) : t.KeepsJob { t.freeCtxs cs with engine := t.engine }) with
    ctxs := fun hs c => by
      rw [State.ctx_freeCtxs]
      split
      · next hc => exact .of_none (idle hs c hc) (Context.blank_no_window _)
      · exact h.ctxs hs c }

/-- A context of another kind than SWEEP works for no window entry. -/
theorem State.Workers.no_window {s : State} {c : CtxId} (hk : (s.ctx c).kind ≠ .sweep) (hs : s.Workers) (u : Nat) :
    (s.ctx c).origin ≠ .window u := fun h => hk (hs c u h).2

/-- A FREE context works for no window entry. -/
theorem State.Workers.no_window_of_free {s : State} {c : CtxId} (hf : (s.ctx c).state = .free) (hs : s.Workers) (u : Nat) :
    (s.ctx c).origin ≠ .window u := fun h => (hs c u h).1 hf

theorem State.foldl_setEntry_keepsJob (f : InFlight → InFlight) (tags : List Nat) (s : State) :
    s.KeepsJob (tags.foldl (fun t tag => t.setEntry tag f) s) := by
  induction tags generalizing s with
  | nil => exact .refl s
  | cons tag tags ih => exact State.KeepsJob.trans .of_frame (ih (s.setEntry tag f))

theorem State.endEarly_keepsJob (s : State) (c : CtxId) (idle : s.Workers → ∀ u, (s.ctx c).origin ≠ .window u) :
    s.KeepsJob (s.endEarly c).2 := by
  have orphaned : s.KeepsJob (s.mapPorts (·.orphanCtxs [c])) := .mapPorts s (fun _ => rfl) (fun _ => rfl)
  have back := orphaned.trans (State.foldl_setEntry_keepsJob (InFlight.toRouting .issued) (s.ctx c).request.toList _)
  exact back.freeCtxs fun hs d hd => List.mem_singleton.mp hd ▸ idle hs

theorem State.endNormally_keepsJob {s t : State} (h : s.KeepsJob t) (c : CtxId)
    (idle : s.Workers → ∀ u, (s.ctx c).origin ≠ .window u) : s.KeepsJob (t.endNormally c).2 := by
  have flags : t.KeepsJob { t with engine := { t.engine with sticky := t.engine.sticky.or (t.ctx c).flags } } := .of_frame
  exact (h.trans flags).freeCtxs fun hs d hd => List.mem_singleton.mp hd ▸ idle hs

theorem State.handBack_keepsJob {s t : State} (h : s.KeepsJob t) (c : CtxId)
    (idle : t.Workers → ∀ u, (t.ctx c).origin ≠ .window u) : s.KeepsJob (t.handBack c).2 := by
  have blank : s.KeepsJob (t.setCtx c (.blank (t.ctx c).serial)) :=
    h.trans (.setCtx t c fun ht => .of_none (idle ht) (Context.blank_no_window _))
  rcases t.handBack_cases c with ⟨tag, -, e⟩ | ⟨-, e⟩ <;> rw [e]
  · exact blank.trans .of_frame
  · exact blank

theorem State.lockRequest_keepsJob {s t : State} (h : s.KeepsJob t) (c : CtxId)
    (idle : t.locked (t.ctx c).stripe = true → t.Workers → ∀ u, (t.ctx c).origin ≠ .window u) :
    s.KeepsJob (t.lockRequest c).2 := by
  rcases t.lockRequest_cases c with ⟨hl, e⟩ | ⟨-, -, e⟩ | ⟨-, -, e⟩ <;> rw [e]
  · exact State.handBack_keepsJob h c (idle hl)
  all_goals exact h.trans .of_frame

theorem State.askLock_keepsJob (s : State) : s.KeepsJob s.askLock.2 := by
  rcases s.askLock_cases with ⟨-, e⟩ | ⟨c, -, -, e⟩ | ⟨c, -, -, hk, e⟩ <;> rw [e]
  · exact .refl s
  · exact .of_frame
  · exact State.lockRequest_keepsJob .of_frame c fun _ => State.Workers.no_window (s := { s with engine := _ }) hk

theorem State.lockDue_keepsJob (s : State) : s.KeepsJob s.lockDue.2 := by
  rcases s.lockDue_cases with ⟨-, e⟩ | ⟨-, -, e⟩ | ⟨-, -, e⟩ <;> rw [e]
  · exact .refl s
  · exact .of_frame
  · exact State.KeepsJob.trans .of_frame (State.askLock_keepsJob _)

theorem State.rejoin_keepsJob (s : State) (tag : Nat) : s.KeepsJob (s.rejoin tag) := by
  rcases s.rejoin_cases tag with e | ⟨_, _, -, -, -, -, -, e⟩ <;> rw [e]
  · exact .refl s
  · exact s.hold_keepsJob _ _

theorem State.answer_keepsJob (s : State) (tag : Nat) (r : Response) : s.KeepsJob (s.answer tag r) := .of_frame

theorem State.forwardTo_keepsJob (s : State) (e : InFlight) (p : PortId) : s.KeepsJob (s.forwardTo e p).2 := by
  have offer := s.offerForeground_keepsJob p e.driveOp
  unfold State.forwardTo
  dsimp only
  split
  · exact offer.trans .of_frame
  · exact .of_frame
  all_goals exact s.answer_keepsJob _ _

/-- A context found FREE for the foreground is FREE. -/
theorem State.lowestFree_free {s : State} {c : CtxId} (h : s.lowestFree = some c) : (s.ctx c).state = .free := by
  simpa using List.find?_some h

theorem State.foregroundCtx_free {s : State} {c : CtxId} (h : s.foregroundCtx = some c) : (s.ctx c).state = .free := by
  unfold State.foregroundCtx at h
  split at h
  · exact State.lowestFree_free h
  · cases h

/-- A context a request takes names that request (R76). -/
theorem State.requestCtx_origin (s : State) (c : CtxId) (e : InFlight) (place : Place) (kind : CtxKind)
    (mask : List PortId) (target : Option PortId) (tm : Option Nat) :
    (s.requestCtx c e place kind mask target tm).origin = .tag e.tag := by
  unfold State.requestCtx; split <;> rfl

theorem State.reconstruct_keepsJob (s : State) (e : InFlight) (place : Place) (kind : CtxKind) (mask : List PortId)
    (target : Option PortId) (tm : Option Nat) (offered : Bool) :
    s.KeepsJob (s.reconstruct e place kind mask target tm offered).2 := by
  unfold State.reconstruct
  split
  · next c hc =>
    have free : (s.ctx c).state = .free := by
      split at hc
      · exact State.foregroundCtx_free hc
      · cases hc
    have other (u : Nat) : (s.requestCtx c e place kind mask target tm).origin ≠ .window u := by
      simp [State.requestCtx_origin]
    have taken : s.KeepsJob (s.setCtx c (s.requestCtx c e place kind mask target tm)) :=
      .setCtx s c fun hs => .of_none (State.Workers.no_window_of_free free hs) other
    split
    · exact taken.trans .of_frame
    · refine State.lockRequest_keepsJob (taken.trans .of_frame) c fun _ _ u => ?_
      show ((s.setCtx c _).ctx c).origin ≠ _
      rw [State.ctx_setCtx_self]
      exact other u
  · exact .of_frame

theorem State.decideRoute_keepsJob (s : State) (e : InFlight) (place : Place) (offered : Bool) :
    s.KeepsJob (s.decideRoute e place offered).2 := by
  unfold State.decideRoute
  split
  · exact s.answer_keepsJob _ _
  · split
    · exact s.hold_keepsJob _ _
    · split
      · exact s.forwardTo_keepsJob _ _
      · exact s.reconstruct_keepsJob _ _ _ _ _ _ _
      all_goals exact s.answer_keepsJob _ _

theorem State.route_keepsJob (s : State) (tag : Nat) (offered : Bool) : s.KeepsJob (s.route tag offered).2 := by
  unfold State.route
  (repeat' split)
  · exact .refl s
  · exact .refl s
  · exact s.decideRoute_keepsJob _ _ _
  · exact .refl s

theorem State.arbitrate_keepsJob (s : State) : s.KeepsJob s.arbitrate.2 := by
  unfold State.arbitrate
  (repeat' split)
  · exact .refl s
  · exact .of_frame
  · exact .refl s

theorem State.routerOutcome_keepsJob (s : State) (tag : Nat) (p : PortId) (op : DriveOp) (out : Outcome) :
    s.KeepsJob (s.routerOutcome tag p op out).2 := by
  unfold State.routerOutcome
  dsimp only
  (repeat' split)
  · exact .refl s
  · exact .refl s
  all_goals exact .of_frame

/-! ## The engine -/

theorem State.portFinal_keepsJob (s : State) (c : CtxId) (p : PortId) (lanes : List Lane) (source : Bool) :
    s.KeepsJob (s.portFinal c p lanes source).2 := .setCtx s c fun _ => .of_eq rfl rfl rfl id

theorem State.missingInput_keepsJob (s : State) (c : CtxId) (p : PortId) : s.KeepsJob (s.missingInput c p).2 :=
  s.portFinal_keepsJob c p _ _

theorem offerReads_keepsJob (c : CtxId) (ps : List PortId) (s : State) : s.KeepsJob (offerReads c ps s).2 := by
  induction ps generalizing s with
  | nil => exact .refl s
  | cons p ps ih =>
    unfold offerReads
    dsimp only
    split
    · split
      · next h => exact s.endEarly_keepsJob c (State.Workers.no_window h.1)
      · exact (s.missingInput_keepsJob c p).trans (ih _)
    · exact (s.offerContext_keepsJob c p _).trans (ih _)

theorem State.startReading_keepsJob (s : State) (c : CtxId) : s.KeepsJob (s.startReading c).2 :=
  State.KeepsJob.after_setCtx (x := { s.ctx c with state := .reading, outstanding := (s.ctx c).mask })
    (offerReads_keepsJob c _ _)

theorem State.readMissing_keepsJob (s : State) (c : CtxId) (p : PortId) : s.KeepsJob (s.readMissing c p).2 := by
  unfold State.readMissing
  dsimp only
  split
  · split
    · exact (State.offerContext_keepsJob _ c p _).after_setCtx
    · exact s.missingInput_keepsJob c p
  · next hk =>
    split
    · exact s.endEarly_keepsJob c (State.Workers.no_window hk)
    · exact s.missingInput_keepsJob c p

theorem State.readOutcome_keepsJob (s : State) (c : CtxId) (p : PortId) (out : Outcome) :
    s.KeepsJob (s.readOutcome c p out).2 := by
  cases out with
  | good data => exact s.portFinal_keepsJob c p _ _
  | unreadable data masks => exact s.portFinal_keepsJob c p _ _
  | fault => exact s.readMissing_keepsJob c p
  | missing => exact s.readMissing_keepsJob c p

/-- All the delivery of a result can do: an answer to the request of the context, or nothing (R55, R91). -/
theorem State.deliverResult_cases (s : State) (c : CtxId) : s.deliverResult c = s ∨
    ∃ tag e place, (s.ctx c).request = some tag ∧ s.entry? tag = some e ∧ e.place = some place ∧
      s.deliverResult c =
        s.answer tag (resultOf (s.ctx c).first (s.ctx c).lanes (s.ctx c).classes place e.count) := by
  unfold State.deliverResult
  dsimp only
  split
  · exact .inl rfl
  · next tag ht =>
    split
    · exact .inl rfl
    · next e he =>
      split
      · exact .inl rfl
      · next place hp => exact .inr ⟨tag, e, place, ht, he, hp, rfl⟩

theorem State.deliverResult_keepsJob (s : State) (c : CtxId) : s.KeepsJob (s.deliverResult c) := by
  rcases s.deliverResult_cases c with e | ⟨_, _, _, -, -, -, e⟩ <;> rw [e]
  · exact .refl s
  · exact s.answer_keepsJob _ _

@[simp] theorem State.deliverResult_engine (s : State) (c : CtxId) : (s.deliverResult c).engine = s.engine := by
  rcases s.deliverResult_cases c with e | ⟨_, _, _, -, -, -, e⟩ <;> simp [e]

theorem State.spareGone_keepsJob (s : State) (c : CtxId) : s.KeepsJob (s.spareGone c).2 := by
  unfold State.spareGone
  split
  · next hk => exact State.endNormally_keepsJob (.refl s) c (State.Workers.no_window (by simp [hk]))
  · exact .setCtx s c fun _ => .of_eq rfl rfl rfl id

theorem State.offerSpare_keepsJob (s : State) (c : CtxId) : s.KeepsJob (s.offerSpare c).2 := by
  unfold State.offerSpare
  dsimp only
  split
  · exact .refl s
  · split
    · split
      · exact s.spareGone_keepsJob c
      · exact .setCtx s c fun _ => .of_eq rfl rfl rfl id
    · exact (s.offerContext_keepsJob c _ _).trans (.setCtx _ c fun _ => .of_eq rfl rfl rfl id)

theorem State.spareMissing_keepsJob (s : State) (c : CtxId) (p : PortId) : s.KeepsJob (s.spareMissing c p).2 := by
  unfold State.spareMissing
  split
  · exact s.spareGone_keepsJob c
  · exact .setCtx s c fun _ => .of_eq rfl rfl rfl id

theorem State.sweepFree_keepsJob (s : State) (c : CtxId) (serial : Nat) : s.KeepsJob (s.sweepFree c serial).2 := by
  unfold State.sweepFree
  dsimp only
  split
  · next h =>
    exact (State.KeepsJob.refl s).freeCtxs fun _ d hd u => by rw [List.mem_singleton.mp hd, h.2.2]; simp
  · exact .refl s

theorem State.insertAhead_keepsJob (s : State) (c : CtxId) : s.KeepsJob (s.insertAhead c) := by
  unfold State.insertAhead
  dsimp only
  split
  · exact .of_frame
  · exact .refl s

theorem State.lanesFinal_keepsJob (s : State) (c : CtxId) : s.KeepsJob (s.lanesFinal c).2 := by
  let formed : Context := { s.ctx c with
    classes := (s.ctx c).lanes.map Lane.class, flags := (s.ctx c).flags.or (laneCauses (s.ctx c).lanes) }
  have form : s.KeepsJob (s.setCtx c formed) := .setCtx s c fun _ => .of_eq rfl rfl rfl id
  have deliver : s.KeepsJob ((s.setCtx c formed).deliverResult c) := form.trans (State.deliverResult_keepsJob _ c)
  have context : ((s.setCtx c formed).deliverResult c).ctx c = formed := by
    rw [State.ctx_congr (congrArg Engine.ctxs (State.deliverResult_engine _ c)), State.ctx_setCtx_self]
  unfold State.lanesFinal
  dsimp only
  split
  · exact form.trans (.setCtx _ c fun _ => .of_eq rfl rfl rfl (by simp))
  · next hk => exact State.endNormally_keepsJob deliver c (State.Workers.no_window (by simp [hk]))
  · next hk =>
    have other := State.Workers.no_window (s := s) (c := c) (by simp [hk])
    have ceased : s.KeepsJob (((s.setCtx c formed).deliverResult c).setCtx c
        { ((s.setCtx c formed).deliverResult c).ctx c with origin := .noRequest }) := by
      refine deliver.trans (.setCtx _ c fun hs => .of_none (fun u => ?_) (by simp))
      exact State.Workers.no_window (c := c) (by rw [context]; simp [formed, hk]) hs u
    split
    · exact State.endNormally_keepsJob ceased c other
    · exact ceased.trans (.setCtx _ c fun _ => .of_eq rfl rfl rfl (by simp))

end Sys2Proof.Machine
end

section
/-! SUPPORT. Every effect and every command leaves the job as it was but for one event of a short list: what can happen
to the rebuild job, said once. -/
namespace Sys2Proof.Machine

/-! ## The events -/

/-- What a start of this kind has been checked for (R36, R102): fresh, a SPARE port and a resume within the array; else
T and P of the halted or stopped job and a resume at or below W. -/
def State.MayStart (s : State) (p : PortId) (r : Nat) : Bool → Prop
  | true => s.job.state.fresh = true ∧ (s.port p).role = .spare ∧ r ≤ s.stripeCount
  | false => (s.job.state = .stopped ∨ s.job.state = .halted) ∧ s.job.target.isSome = true ∧ s.job.spare.isSome = true ∧
      r ≤ s.job.w

/-- The events of the rebuild job, with what is known when each comes. -/
inductive State.JobEvent (s : State) : State → Prop
  | quiet : JobEvent s s
  | sweepEnd (c : CtxId) : JobEvent s (s.sweepEnd c).2
  | secondFault : s.job.state.sweepable = true → JobEvent s s.secondFault.2
  | spareLoss (p : PortId) : (s.port p).bound = true → JobEvent s s.spareLoss.2
  | abandon : s.job.state.bound = true → JobEvent s s.abandonJob.2
  | disarm (cause : JobCause) : s.job.state = .armed → JobEvent s (s.jobIdle cause)
  | arm : s.job.state = .idle ∨ s.job.state = .done → JobEvent s s.armIfDue
  | skip : s.job.state = .active → s.job.n < s.stripeCount → JobEvent s s.skipCursor
  | complete : s.job.state = .active → s.job.n = s.stripeCount → s.job.window = [] → JobEvent s s.complete
  | launch (c : CtxId) : s.job.state = .active → s.mayLaunch = true → (s.ctx c).state = .free → JobEvent s (s.launch c)
  | start (m : Nat) (p : PortId) (r : Nat) (cause : JobCause) (fresh : Bool) : s.MayStart p r fresh →
      JobEvent s (s.start m p r cause fresh)
  | stop : s.job.state = .active ∨ s.job.state = .paused → s.job.window = [] → JobEvent s (s.jobTo .stopped .command)
  | stopping : s.job.state = .active ∨ s.job.state = .paused → JobEvent s (s.jobTo .stopping .command)
  | resume : s.job.state = .paused → JobEvent s (s.jobTo .active .command)
  | install : s.job.state.committable = true → JobEvent s s.installMap
  | reset (kind : ResetKind) (frames : List Frame) : JobEvent s (s.resetAs kind frames)

/-- One event of the job among changes that leave it as it was. -/
def State.JobStep (s t : State) : Prop := ∃ u v, s.KeepsJob u ∧ u.JobEvent v ∧ v.KeepsJob t

theorem State.KeepsJob.jobStep {s t : State} (h : s.KeepsJob t) : s.JobStep t := ⟨s, s, .refl s, .quiet, h⟩

theorem State.JobEvent.jobStep {s t : State} (h : s.JobEvent t) : s.JobStep t := ⟨s, t, .refl s, h, .refl t⟩

theorem State.JobStep.trans {s t u : State} (h : s.JobStep t) (g : t.KeepsJob u) : s.JobStep u := by
  obtain ⟨a, b, ha, e, hb⟩ := h
  exact ⟨a, b, ha, e, hb.trans g⟩

theorem State.KeepsJob.before {s t u : State} (h : s.KeepsJob t) (e : t.JobEvent u) : s.JobStep u := ⟨t, u, h, e, .refl u⟩

theorem State.JobStep.after {s t u : State} (h : s.KeepsJob t) (g : t.JobStep u) : s.JobStep u := by
  obtain ⟨a, b, ha, e, hb⟩ := g
  exact ⟨a, b, h.trans ha, e, hb⟩

/-! ## The effects of the engine, the router and the ports -/

@[simp] theorem State.answerStop_policy (s : State) (st : Status) :
    (s.answerStop st).target.policy = s.target.policy := by
  unfold State.answerStop; split <;> (try split) <;> simp

theorem State.arm_jobStep {s : State} (h : s.job.state = .idle ∨ s.job.state = .done) : s.JobStep s.arm.2 :=
  (State.JobEvent.arm h).jobStep

theorem State.writeGood_jobStep (s : State) (c : CtxId) : s.JobStep (s.writeGood c).2 := by
  unfold State.writeGood
  dsimp only
  split
  · split
    · exact State.KeepsJob.jobStep (.setCtx s c fun _ => .of_eq rfl rfl rfl (by simp))
    · exact (State.JobEvent.sweepEnd c).jobStep
  · next hk => exact (State.endNormally_keepsJob (s.insertAhead_keepsJob c) c (State.Workers.no_window hk)).jobStep

theorem State.ctxOutcome_jobStep (s : State) (c : CtxId) (serial : Nat) (p : PortId) (out : Outcome) :
    s.JobStep (s.ctxOutcome c serial p out).2 := by
  unfold State.ctxOutcome
  dsimp only
  split
  · exact (State.KeepsJob.refl s).jobStep
  · split
    · exact (s.readOutcome_keepsJob c p _).jobStep
    · exact s.writeGood_jobStep c
    · exact (State.JobEvent.sweepEnd c).jobStep
    iterate 4 exact (s.spareMissing_keepsJob c p).jobStep
    all_goals exact (State.KeepsJob.refl s).jobStep

theorem State.deliver_jobStep (s : State) (p : PortId) (op : DriveOp) (out : Outcome) :
    s.JobStep (s.deliver p op out).2 := by
  unfold State.deliver
  split
  · exact (State.KeepsJob.refl s).jobStep
  · exact (s.routerOutcome_keepsJob _ p op out).jobStep
  · exact s.ctxOutcome_jobStep _ _ p out

theorem State.sequencerFailure_jobStep (s : State) (p : PortId) : s.JobStep (s.sequencerFailure p).2 := by
  unfold State.sequencerFailure
  split
  · next h => exact (State.JobEvent.spareLoss p h).jobStep
  · split
    · exact (State.KeepsJob.refl s).jobStep
    · split
      iterate 4
        next h =>
          split
          · exact (State.KeepsJob.refl s).jobStep
          · exact (State.JobEvent.secondFault (by simp [h, JobState.sweepable])).jobStep
      · next h =>
        split
        · exact (State.KeepsJob.refl s).jobStep
        · exact (State.JobEvent.disarm .secondFault h).jobStep
      · next h => exact State.arm_jobStep (.inl h)
      · next h => exact State.arm_jobStep (.inr h)
      · exact (State.KeepsJob.refl s).jobStep

/-- A launch has found its stripe unlocked, so that its lock request is granted or drains (R107). -/
theorem State.launch_unlocked {s : State} {c : CtxId} (h : s.mayLaunch = true) :
    (s.launch c).locked ((s.launch c).ctx c).stripe = false := by
  simp only [State.mayLaunch, Bool.and_eq_true, Bool.not_eq_true'] at h
  have : ((s.launch c).ctx c).stripe = s.job.n := by simp only [State.launch, State.ctx_setCtx_self]; rfl
  rw [this]
  exact h.2

theorem State.sweepCtx_free {s : State} {c : CtxId} (h : s.sweepCtx = some c) : (s.ctx c).state = .free := by
  unfold State.sweepCtx at h
  split at h
  · exact State.lowestFree_free h
  · cases h

theorem State.examine_jobStep (s : State) : s.JobStep s.examine.2 := by
  rcases s.examine_cases with e | ⟨ha, hn, -, e⟩ | ⟨ha, hn, hw, e⟩ | ⟨c, ha, -, hm, hc, e⟩ <;> rw [e]
  · exact (State.KeepsJob.refl s).jobStep
  · exact (State.JobEvent.skip ha hn).jobStep
  · exact (State.JobEvent.complete ha hn hw).jobStep
  · refine (State.JobEvent.launch c ha hm (State.sweepCtx_free hc)).jobStep.trans
      (State.lockRequest_keepsJob (.refl _) c fun hl => ?_)
    rw [State.launch_unlocked hm] at hl
    cases hl

theorem State.fitSpare_spare {s : State} {p : PortId} (h : s.fitSpare = some p) : (s.port p).role = .spare := by
  have := List.find?_some h
  simp only [Bool.and_eq_true, beq_iff_eq] at this
  exact this.1

theorem State.settleExpiry_jobStep (s : State) : s.JobStep s.settleExpiry.2 := by
  unfold State.settleExpiry
  split
  · next hst _ _ =>
    split
    · next p hp =>
      exact (State.JobEvent.start _ p 0 .auto true
        ⟨by rw [hst]; rfl, State.fitSpare_spare hp, Nat.zero_le _⟩).jobStep
    · exact (State.JobEvent.disarm .auto hst).jobStep
  · exact (State.KeepsJob.refl s).jobStep

/-! ## The management target -/

theorem State.mgmtAnswer_keepsJob (s : State) (tag : Nat) (r : Response) : s.KeepsJob (s.mgmtAnswer tag r).2 :=
  s.answer_keepsJob tag r
theorem State.mgmtGood_keepsJob (s : State) (tag : Nat) : s.KeepsJob (s.mgmtGood tag).2 := s.mgmtAnswer_keepsJob _ _
theorem State.mgmtResult_keepsJob (s : State) (tag : Nat) (bytes : List Byte) : s.KeepsJob (s.mgmtResult tag bytes).2 :=
  s.mgmtAnswer_keepsJob _ _
theorem State.mgmtRefuse_keepsJob (s : State) (tag : Nat) (st : Status) : s.KeepsJob (s.mgmtRefuse tag st).2 :=
  State.KeepsJob.trans .of_frame ((s.latch st).mgmtAnswer_keepsJob tag _)

theorem State.installReport_jobStep (s : State) : s.JobStep s.installReport.2 := by
  unfold State.installReport
  split
  · exact (State.KeepsJob.refl s).jobStep
  · split
    · next h => exact (State.JobEvent.install h).jobStep.trans (State.mgmtGood_keepsJob _ _)
    · exact (s.mgmtRefuse_keepsJob _ _).jobStep

/-- What the checks of a start that is accepted have found (R102). -/
theorem State.startChecks_ok {s : State} {m p : Byte} {r : Option Nat} {q : PortId} {w : Nat}
    (h : s.startChecks m p r = .ok (q, w)) : s.MayStart q w s.job.state.fresh := by
  unfold State.startChecks at h
  split at h
  · cases h
  · next hst =>
    (repeat' split at h) <;> cases h
    · next hf hr _ hp =>
      rw [hf]
      exact ⟨hf, by simp_all, by omega⟩
    · next hf hw _ _ ht =>
      rw [Bool.not_eq_true] at hf
      rw [hf]
      simp only [not_or, not_not] at ht
      exact ⟨by simpa [hf, or_iff_not_imp_left] using hst, by simp [ht.1], by simp [ht.2], by omega⟩

theorem State.takeStart_jobStep (s : State) (tag : Nat) (ps : List Byte) : s.JobStep (s.takeStart tag ps).2 := by
  unfold State.takeStart
  split
  · exact (s.mgmtRefuse_keepsJob _ _).jobStep
  · split
    · exact (s.mgmtRefuse_keepsJob _ _).jobStep
    · next h => exact (State.JobEvent.start _ _ _ .command _ (State.startChecks_ok h)).jobStep

theorem State.takeStop_jobStep (s : State) (tag : Nat) (ps : List Byte) : s.JobStep (s.takeStop tag ps).2 := by
  have stops (h : s.job.state = .active ∨ s.job.state = .paused) : s.JobStep (if s.job.window = [] then
      (s.jobTo .stopped .command).mgmtGood tag
    else ([.nextCommand], { s with job := { s.job with awaiting := some tag } }.jobTo .stopping .command)).2 := by
    split
    · next hw => exact (State.JobEvent.stop h hw).jobStep.trans (State.mgmtGood_keepsJob _ _)
    · have noted : s.KeepsJob { s with job := { s.job with awaiting := some tag } } := .of_frame
      exact noted.before (.stopping h)
  unfold State.takeStop
  split
  · exact (s.mgmtRefuse_keepsJob _ _).jobStep
  · split
    · next h => exact stops (.inl h)
    · next h => exact stops (.inr h)
    iterate 2 exact (s.mgmtGood_keepsJob _).jobStep
    all_goals exact (s.mgmtRefuse_keepsJob _ _).jobStep

theorem State.takeAbandon_jobStep (s : State) (tag : Nat) (ps : List Byte) : s.JobStep (s.takeAbandon tag ps).2 := by
  unfold State.takeAbandon
  split
  · exact (s.mgmtRefuse_keepsJob _ _).jobStep
  · split
    · next h => exact (State.JobEvent.abandon h).jobStep.trans (State.answer_keepsJob _ _ _)
    · exact (s.mgmtRefuse_keepsJob _ _).jobStep

theorem State.takeFailMember_keepsJob (s : State) (tag : Nat) (ps : List Byte) :
    s.KeepsJob (s.takeFailMember tag ps).2 := by
  unfold State.takeFailMember
  (repeat' split)
  · exact s.mgmtRefuse_keepsJob _ _
  · exact s.mgmtRefuse_keepsJob _ _
  · exact s.failPort_keepsJob _ _
  · exact s.mgmtGood_keepsJob _
  · exact s.mgmtRefuse_keepsJob _ _

/-- An ARMED job whose member is no longer FAILED is ARMED. -/
theorem State.armed_of_armedRestored {s : State} (h : s.armedRestored = true) : s.job.state = .armed := by
  unfold State.armedRestored at h
  split at h
  · next hs _ => exact hs
  · cases h

theorem State.takeRestorePort_jobStep (s : State) (tag : Nat) (ps : List Byte) :
    s.JobStep (s.takeRestorePort tag ps).2 := by
  unfold State.takeRestorePort
  split
  · split
    · exact (s.mgmtRefuse_keepsJob _ _).jobStep
    · next p _ =>
      split
      · exact (s.mgmtRefuse_keepsJob _ _).jobStep
      · have restored : s.KeepsJob (s.setPort p (s.port p).restored) := .setPort s p rfl rfl
        refine State.JobStep.trans (State.JobStep.after restored ?_) (State.mgmtGood_keepsJob _ _)
        split
        · next h => exact (State.JobEvent.disarm .command (State.armed_of_armedRestored h)).jobStep
        · exact (State.KeepsJob.refl _).jobStep
  · exact (s.mgmtRefuse_keepsJob _ _).jobStep

theorem State.takeClearHealth_keepsJob (s : State) (tag : Nat) (ps : List Byte) :
    s.KeepsJob (s.takeClearHealth tag ps).2 := by
  unfold State.takeClearHealth
  (repeat' split)
  · exact s.mgmtRefuse_keepsJob _ _
  · exact (State.mgmtGood_keepsJob _ _).after_setPort
  · exact s.mgmtRefuse_keepsJob _ _

/-- A policy record in range allows a SweepDepth of at most 8 (R161). -/
theorem parsePolicy_depth {ps : List Byte} {x : Policy} (h : parsePolicy ps = .ok x) : x.sweepDepth ≤ 8 := by
  unfold parsePolicy at h
  split at h
  · (repeat' split at h) <;> cases h
    dsimp only
    omega
  · cases h

theorem State.takeSetPolicy_jobStep (s : State) (tag : Nat) (ps : List Byte) : s.JobStep (s.takeSetPolicy tag ps).2 := by
  unfold State.takeSetPolicy
  split
  · exact (s.mgmtRefuse_keepsJob _ _).jobStep
  · next x hx =>
    have written : s.KeepsJob { s with target := { s.target with policy := x } } :=
      { State.KeepsJob.refl s with depth := fun _ => parsePolicy_depth hx }
    dsimp only
    split
    · next h => exact written.before (.disarm .command h.1)
    · exact written.jobStep

theorem State.takeTakeLost_jobStep (s : State) (tag : Nat) (ps : List Byte) : s.JobStep (s.takeTakeLost tag ps).2 := by
  unfold State.takeTakeLost
  split
  · split
    · exact (s.mgmtRefuse_keepsJob _ _).jobStep
    · dsimp only
      split
      · exact (s.mgmtAnswer_keepsJob _ _).jobStep
      · next n _ _ =>
        have dropped : s.KeepsJob { s with lost := { s.lost with entries := s.lost.entries.drop n.toNat } } :=
          { State.KeepsJob.refl s with entries := by simp }
        unfold State.removeLost
        dsimp only
        split
        · next h => exact dropped.before (.resume h)
        · exact dropped.jobStep
  · exact (s.mgmtRefuse_keepsJob _ _).jobStep

theorem State.takeCommitMap_keepsJob (s : State) (tag : Nat) (ps : List Byte) :
    s.KeepsJob (s.takeCommitMap tag ps).2 := by
  unfold State.takeCommitMap
  (repeat' split)
  iterate 3 exact s.mgmtRefuse_keepsJob _ _
  exact .of_frame

theorem State.takeLoadMap_keepsJob (s : State) (tag : Nat) (ps : List Byte) : s.KeepsJob (s.takeLoadMap tag ps).2 := by
  unfold State.takeLoadMap
  split
  · exact s.mgmtRefuse_keepsJob _ _
  · exact State.KeepsJob.trans .of_frame (State.mgmtGood_keepsJob { s with target := _ } _)

theorem State.takeSetPacing_keepsJob (s : State) (tag : Nat) (ps : List Byte) :
    s.KeepsJob (s.takeSetPacing tag ps).2 := by
  unfold State.takeSetPacing
  split
  · exact s.mgmtRefuse_keepsJob _ _
  · dsimp only
    split
    · exact .of_frame
    · exact State.KeepsJob.trans .of_frame (State.mgmtGood_keepsJob { s with pacing := _ } _)

theorem State.takeSetNotices_keepsJob (s : State) (tag : Nat) (ps : List Byte) :
    s.KeepsJob (s.takeSetNotices tag ps).2 := by
  unfold State.takeSetNotices
  split
  · exact s.mgmtRefuse_keepsJob _ _
  · exact State.KeepsJob.trans .of_frame (State.mgmtGood_keepsJob { s with notices := _ } _)

theorem State.takeClearSticky_keepsJob (s : State) (tag : Nat) (ps : List Byte) :
    s.KeepsJob (s.takeClearSticky tag ps).2 := by
  unfold State.takeClearSticky
  split
  · exact s.mgmtRefuse_keepsJob _ _
  · exact State.KeepsJob.trans .of_frame
      (State.mgmtGood_keepsJob { s with engine := _, notices := _, target := _ } _)

theorem State.takeLoadMilestones_keepsJob (s : State) (tag : Nat) (ps : List Byte) :
    s.KeepsJob (s.takeLoadMilestones tag ps).2 := by
  unfold State.takeLoadMilestones
  split
  · exact s.mgmtRefuse_keepsJob _ _
  · exact State.KeepsJob.trans .of_frame (State.mgmtGood_keepsJob { s with notices := _ } _)

theorem State.takeReset_keepsJob (s : State) (tag : Nat) (ps : List Byte) : s.KeepsJob (s.takeReset tag ps).2 := by
  unfold State.takeReset
  split
  · exact s.mgmtRefuse_keepsJob _ _
  · exact .of_frame

/-- A command that answers one record, or is refused FORMAT for its parameters (R163, R164). -/
theorem State.mgmtRead_keepsJob (s : State) (tag : Nat) (ps bytes : List Byte) :
    s.KeepsJob (if ps ≠ [] then s.mgmtRefuse tag .format else s.mgmtResult tag bytes).2 := by
  split
  · exact s.mgmtRefuse_keepsJob _ _
  · exact s.mgmtResult_keepsJob _ _

theorem State.takeCommand_jobStep (s : State) (tag : Nat) (record : List Byte) :
    s.JobStep (s.takeCommand tag record).2 := by
  unfold State.takeCommand
  split
  · exact (s.mgmtRefuse_keepsJob _ _).jobStep
  · split
    · exact (s.mgmtRead_keepsJob tag _ _).jobStep
    · exact (s.mgmtRead_keepsJob tag _ _).jobStep
    · exact (s.takeLoadMap_keepsJob tag _).jobStep
    · exact (s.takeCommitMap_keepsJob tag _).jobStep
    · exact (s.mgmtRead_keepsJob tag _ _).jobStep
    · exact (s.takeSetPacing_keepsJob tag _).jobStep
    · exact (s.mgmtRead_keepsJob tag _ _).jobStep
    · exact s.takeSetPolicy_jobStep tag _
    · exact s.takeStart_jobStep tag _
    · exact s.takeStop_jobStep tag _
    · exact s.takeAbandon_jobStep tag _
    · exact (s.takeFailMember_keepsJob tag _).jobStep
    · exact s.takeRestorePort_jobStep tag _
    · exact (s.takeClearHealth_keepsJob tag _).jobStep
    · exact (s.takeLoadMilestones_keepsJob tag _).jobStep
    · exact (s.mgmtRead_keepsJob tag _ _).jobStep
    · exact s.takeTakeLost_jobStep tag _
    · exact (s.takeSetNotices_keepsJob tag _).jobStep
    · exact (s.takeClearSticky_keepsJob tag _).jobStep
    · exact (s.takeReset_keepsJob tag _).jobStep
    · exact (s.mgmtRefuse_keepsJob _ _).jobStep

theorem State.nextCommand_keepsJob (s : State) : s.KeepsJob s.nextCommand.2 := by
  unfold State.nextCommand
  split <;> exact .of_frame

/-! ## The channel port -/

theorem State.placeCommand_keepsJob (s : State) (tag : Nat) (record : List Byte) :
    s.KeepsJob (s.placeCommand tag record).2 := by
  unfold State.placeCommand
  (repeat' split) <;> exact .of_frame

theorem State.takeFrame_keepsJob (s : State) (f : Frame) : s.KeepsJob (s.takeFrame f).2 := by
  have added (e : InFlight) : s.KeepsJob (s.addEntry e) := .of_frame
  have member (t : State) (e : InFlight) : t.KeepsJob (t.newMember e).2 := by
    unfold State.newMember
    dsimp only
    (repeat' split) <;> exact .of_frame
  have manage (t : State) (e : InFlight) (record : List Byte) : t.KeepsJob (t.newManage e record).2 := by
    unfold State.newManage
    split
    · exact State.KeepsJob.trans .of_frame (State.placeCommand_keepsJob (t.setEntry _ _) _ _)
    all_goals exact t.answer_keepsJob _ _
  unfold State.takeFrame
  split
  · exact .of_frame
  · exact .of_frame
  · split
    · exact .of_frame
    · split
      · exact .of_frame
      · exact (added _).trans (member _ _)
  · (repeat' split)
    · exact .of_frame
    · exact .of_frame
    · exact (added _).trans (manage _ _ _)

theorem State.settle_jobStep (s : State) : s.JobStep s.settle.2 := by
  unfold State.settle
  split
  · exact s.installReport_jobStep
  · split
    · exact (State.KeepsJob.refl s).jobStep
    · split
      · exact (State.KeepsJob.refl s).jobStep
      · split
        · exact State.KeepsJob.jobStep .of_frame
        · next f rest _ =>
          split
          · exact State.KeepsJob.jobStep (State.KeepsJob.trans .of_frame
              (State.takeFrame_keepsJob { s with channel := { s.channel with linkFrames := rest } } f))
          · exact State.KeepsJob.jobStep .of_frame

/-! ## Every effect and every command -/

/-- Every internal effect is at most one event of the job (R99 to R118). -/
theorem handle_jobStep (w : Work) (s : State) : s.JobStep (handle w s).2 := by
  cases w with
  | route tag offered => exact (s.route_keepsJob tag offered).jobStep
  | askLock => exact s.askLock_keepsJob.jobStep
  | lockDue => exact s.lockDue_keepsJob.jobStep
  | rejoin tag => exact (s.rejoin_keepsJob tag).jobStep
  | startReading c => exact (s.startReading_keepsJob c).jobStep
  | lanesFinal c => exact (s.lanesFinal_keepsJob c).jobStep
  | offerSpare c => exact (s.offerSpare_keepsJob c).jobStep
  | sweepFree c serial => exact (s.sweepFree_keepsJob c serial).jobStep
  | deliver p op out => exact s.deliver_jobStep p op out
  | afterDeparture p => exact (s.afterDeparture_keepsJob p).jobStep
  | countError p => exact (s.countError_keepsJob p).jobStep
  | sequencerFailure p => exact s.sequencerFailure_jobStep p
  | emptyList p => exact (s.emptyList_keepsJob p).jobStep
  | emptyWaiting p => exact (s.emptyWaiting_keepsJob p).jobStep
  | emptyDeferred p => exact (s.emptyDeferred_keepsJob p).jobStep
  | arbiter => exact s.arbitrate_keepsJob.jobStep
  | examine => exact s.examine_jobStep
  | take tag record => exact s.takeCommand_jobStep tag record
  | answer tag r => exact (s.answer_keepsJob tag r).jobStep
  | nextCommand => exact s.nextCommand_keepsJob.jobStep
  | settleExpiry => exact s.settleExpiry_jobStep
  | settle => exact s.settle_jobStep

theorem State.channelReset_keepsJob (s : State) : s.KeepsJob s.channelReset := by
  have orphaned : s.KeepsJob (s.mapPorts Port.orphanTags) := .mapPorts s (fun _ => rfl) (fun _ => rfl)
  refine { orphaned with ctxs := fun _ c => ?_ }
  have context : s.channelReset.ctx c = (s.ctx c).dropRequest := Vector.getElem_map _ c.isLt
  rw [context]
  unfold Context.dropRequest
  split
  · next h => exact .of_none (by simp [h]) (by simp)
  all_goals exact .refl _

theorem State.tickExpiry_keepsJob (s : State) : s.KeepsJob s.tickExpiry.2 := by
  unfold State.tickExpiry
  dsimp only
  split <;> exact .of_frame

theorem State.gapElapses_keepsJob (s : State) : s.KeepsJob s.gapElapses := by
  unfold State.gapElapses
  split
  · exact .of_frame
  · exact .refl s

theorem State.noticeSent_keepsJob (s : State) : s.KeepsJob s.noticeSent := by
  unfold State.noticeSent
  split
  · exact .of_frame
  all_goals exact .refl s

theorem State.responseSent_jobStep (s : State) : s.JobStep s.responseSent := by
  unfold State.responseSent
  split
  · next rest _ _ =>
    have sent : s.KeepsJob { s with channel := { s.channel with responses := rest, tx := .idle } } := .of_frame
    dsimp only
    split
    · exact sent.jobStep
    · split
      · exact sent.before (.reset .bridge _)
      · exact State.KeepsJob.jobStep .of_frame
  · exact (State.KeepsJob.refl s).jobStep

/-- A property that the events of the job keep, and the changes that leave the job as it was, is kept by every step. -/
theorem Kept.of_jobEvents {P : State → Prop} (keeps : ∀ s t, s.KeepsJob t → P s → P t)
    (event : ∀ s t, s.JobEvent t → P s → P t) : Kept P :=
  have step (s t : State) (h : s.JobStep t) (hs : P s) : P t := by
    obtain ⟨u, v, hu, e, hv⟩ := h
    exact keeps v t hv (event u v e (keeps s u hu hs))
  { effect := fun w s => step s _ (handle_jobStep w s)
    linkFrames := fun s l => keeps s _ .of_frame
    up := fun s b => keeps s _ .of_frame
    installReport := fun s => step s _ s.installReport_jobStep
    grant := fun s c => keeps s _ (.of_frame rfl rfl rfl rfl ⟨rfl, rfl, rfl, rfl, rfl, rfl⟩ rfl)
    advanceTo := fun s n => keeps s _ (s.advanceTo_keepsJob n)
    periodEnd := fun s n => keeps s _ .of_frame
    tickExpiry := fun s => keeps s _ s.tickExpiry_keepsJob
    bridgeReset := fun s => event s _ (.reset .bridge _)
    powerOnReset := fun s => event s _ (.reset .power _)
    channelReset := fun s => keeps s _ s.channelReset_keepsJob
    linkUp := fun s p => keeps s _ (s.linkUp_keepsJob p)
    linkDown := fun s p => keeps s _ (s.linkDown_keepsJob p)
    driveCompletion := fun s p id r => keeps s _ (s.driveCompletion_keepsJob p id r)
    driveTimeout := fun s p id => keeps s _ (s.driveTimeout_keepsJob p id)
    gapElapses := fun s => keeps s _ s.gapElapses_keepsJob
    responseSent := fun s => step s _ s.responseSent_jobStep
    noticeSent := fun s => keeps s _ s.noticeSent_keepsJob
    pending := fun s l => keeps s _ .of_frame }

end Sys2Proof.Machine
end

section
/-! SUPPORT. What the events of the rebuild job write: the notices they form, the exchange of roles, the retirement of a
stripe, the end of a job, the installation of a map. -/
namespace Sys2Proof.Machine

/-! ## Forming notices -/

/-- State t is s but for the notice queue, the notices-lost flag and what the transmitter sends. -/
def State.Notified (s t : State) : Prop := ∃ tx queue lost,
  t = { s with channel := { s.channel with tx }, notices := { s.notices with queue, lost } }

theorem State.Notified.refl (s : State) : s.Notified s := ⟨_, _, _, rfl⟩

theorem State.Notified.trans {s t u : State} (h : s.Notified t) (g : t.Notified u) : s.Notified u := by
  obtain ⟨a, b, c, rfl⟩ := h
  obtain ⟨a', b', c', rfl⟩ := g
  exact ⟨a', b', c', rfl⟩

theorem State.transmit_notified (s : State) : s.Notified s.transmit := by
  unfold State.transmit
  (repeat' split)
  · exact ⟨_, _, _, rfl⟩
  · exact .refl s
  · exact ⟨_, _, _, rfl⟩
  all_goals exact .refl s

theorem State.notify_notified (s : State) (n : Notice) : s.Notified (s.notify n) := by
  rcases s.notify_cases n with ⟨-, e⟩ | ⟨-, e⟩ <;> rw [e]
  · exact .refl s
  · exact State.Notified.trans ⟨_, _, _, rfl⟩ (State.transmit_notified _)

theorem State.foldl_notify {α : Type} (f : α → Notice) (l : List α) (s : State) :
    s.Notified (l.foldl (fun t a => t.notify (f a)) s) := by
  induction l generalizing s with
  | nil => exact .refl s
  | cons a l ih => exact (s.notify_notified (f a)).trans (ih _)

/-- All that reporting W can do: the milestones at or below it leave, and notices are formed (R146). -/
theorem State.fireMilestones_notified (s : State) (w : Nat) :
    { s with notices := { s.notices with
      milestones := s.notices.milestones.dropWhile (fun m => m.target ≤ w) } }.Notified (s.fireMilestones w) :=
  State.foldl_notify (fun m : Milestone => .milestone m.tag w) _ _

/-! ## The watermark -/

/-- State t is s but for the job's W and ahead set, the milestones, and what forming notices changes. -/
theorem State.advanceW_spec (s : State) (w : Nat) : ∃ channel notices, s.advanceW w =
    { s with job := { s.job with w, ahead := s.job.ahead.filter (fun t => w ≤ t) }, channel, notices } := by
  unfold State.advanceW
  dsimp only
  split
  · obtain ⟨tx, queue, lost, e⟩ := State.fireMilestones_notified
      { s with job := { s.job with w, ahead := s.job.ahead.filter (fun t => w ≤ t) } } w
    exact ⟨_, _, e⟩
  · exact ⟨_, _, rfl⟩

/-! ## The role exchange -/

@[simp] theorem State.port_setRole (s : State) (p q : PortId) (r : Role) :
    (s.setRole p r).port q = if p = q then { s.port p with role := r } else s.port q :=
  State.port_setPort _ p q _

theorem State.committed_setRole (s : State) (p : PortId) (r : Role) : (s.setRole p r).target.committed =
    { s.target.committed with roles := s.target.committed.roles.set p r } := rfl

/-- A role in a list of roles with one replaced. -/
theorem roles_get_set (roles : Vector Role 10) (p q : PortId) (r : Role) :
    (roles.set p r).get q = if p = q then r else roles.get q := by
  split
  · next h => subst h; exact Vector.getElem_set_self p.isLt
  · next h => exact Vector.getElem_set_ne p.isLt q.isLt (fun e => h (Fin.ext e))

/-- A role of the committed map after one port's role is written (R1). -/
theorem State.roles_setRole (s : State) (p q : PortId) (r : Role) : (s.setRole p r).target.committed.roles.get q =
    if p = q then r else s.target.committed.roles.get q := roles_get_set _ p q r

/-- The role a port has after the exchange for target t and spare p (R11). -/
def State.exchangedRole (s : State) (t : Nat) (p q : PortId) (r : Role) : Role :=
  if p = q then .member t else if s.portOf t = some q then .unused else r

/-- What the role exchange makes of a port (R11). -/
theorem State.port_roleExchange (s : State) (t : Nat) (p q : PortId) : (s.roleExchange t p).port q =
    { s.port q with role := s.exchangedRole t p q (s.port q).role, bound := (s.port q).bound && p ≠ q } := by
  unfold State.roleExchange State.exchangedRole
  cases hq : s.portOf t with
  | none => by_cases h : p = q <;> simp [h]
  | some r => by_cases h : p = q <;> by_cases h' : r = q <;> simp [h, h']

/-- What the role exchange makes of the committed map (R11). -/
theorem State.roles_roleExchange (s : State) (t : Nat) (p q : PortId) :
    (s.roleExchange t p).target.committed.roles.get q = s.exchangedRole t p q (s.target.committed.roles.get q) := by
  unfold State.roleExchange State.exchangedRole
  cases hq : s.portOf t with
  | none => by_cases h : p = q <;> simp [State.roles_setRole, h]
  | some r => by_cases h : p = q <;> by_cases h' : r = q <;> simp [State.roles_setRole, h, h']

/-- The role exchange leaves everything but the ports and the roles of the committed map (R11). -/
theorem State.roleExchange_frame (s : State) (t : Nat) (p : PortId) : ∃ roles ports, s.roleExchange t p =
    { s with target := { s.target with committed := { s.target.committed with roles } }, ports } := by
  unfold State.roleExchange
  cases s.portOf t <;> exact ⟨_, _, rfl⟩

/-! ## Completion -/

/-- What completion writes (R112): the exchanged roles, the job, and nothing but answers and notices besides. -/
theorem State.complete_spec {s : State} {t : Nat} {p : PortId} (ht : s.job.target = some t) (hp : s.job.spare = some p) :
    s.complete.job =
      { s.job with ahead := [], window := [], state := .done, cause := .complete, awaiting := none } ∧
    s.complete.ports = (s.roleExchange t p).ports ∧
    s.complete.target.committed = (s.roleExchange t p).target.committed ∧
    s.complete.target.policy = s.target.policy ∧ s.complete.engine = s.engine ∧ s.complete.lost = s.lost := by
  obtain ⟨tx, queue, lost, e⟩ := s.fireMilestones_notified s.job.w
  have exchange : ∀ u : State, u.ports = s.ports → u.target = s.target → (u.roleExchange t p).ports =
      (s.roleExchange t p).ports ∧ (u.roleExchange t p).target = (s.roleExchange t p).target := by
    intro u hu hv
    have hport : u.portOf t = s.portOf t := by simp [State.portOf, State.port, hu]
    unfold State.roleExchange
    rw [hport]
    cases s.portOf t <;> simp [State.setRole, State.setPort, State.port, hu, hv]
  obtain ⟨hports, htarget⟩ := exchange (s.fireMilestones s.job.w) (by rw [e]) (by rw [e])
  obtain ⟨roles, ports, frame⟩ := (s.fireMilestones s.job.w).roleExchange_frame t p
  have hpolicy : (s.roleExchange t p).target.policy = s.target.policy := by
    rw [← htarget, frame, e]
  have hjob : ((s.fireMilestones s.job.w).roleExchange t p).job = s.job := by rw [frame, e]
  have hengine : ((s.fireMilestones s.job.w).roleExchange t p).engine = s.engine := by rw [frame, e]
  have hlost : ((s.fireMilestones s.job.w).roleExchange t p).lost = s.lost := by rw [frame, e]
  unfold State.complete
  rw [ht, hp]
  simp [hjob, hengine, hlost, hports, htarget, hpolicy]

/-- With no target or no spare there is nothing to complete. -/
theorem State.complete_of_none {s : State} (h : s.job.target = none ∨ s.job.spare = none) : s.complete = s := by
  unfold State.complete
  split
  · next ht hp => simp [ht, hp] at h
  · rfl

/-! ## Retirement -/

/-- W after the window lost its DONE entries at the head (R109 step 1). -/
def Job.headStripe (j : Job) (window : List WindowEntry) : Nat :=
  match window with
  | e :: _ => e.stripe
  | [] => j.n

/-- The state once the entry of a stripe has been retired, before the job completes or stops (R109). -/
def State.retired (s : State) (stripe : Nat) : State :=
  { s with job := { s.job with window := retireWindow s.job.window stripe } }.advanceW
    (s.job.headStripe (retireWindow s.job.window stripe))

/-- What the retirement of a stripe writes (R109 steps 1 to 4). -/
theorem State.retired_spec (s : State) (stripe : Nat) : ∃ ahead channel notices, s.retired stripe = { s with
    job := { s.job with window := retireWindow s.job.window stripe
                        w := s.job.headStripe (retireWindow s.job.window stripe), ahead }, channel, notices } := by
  obtain ⟨channel, notices, e⟩ := State.advanceW_spec
    { s with job := { s.job with window := retireWindow s.job.window stripe } }
    (s.job.headStripe (retireWindow s.job.window stripe))
  exact ⟨_, channel, notices, e⟩

/-- All a retirement can do (R109, R112, R103): W and the window alone; or, with the window empty, the end of the job at
StripeCount, or of the stopping. -/
theorem State.retire_cases (s : State) (stripe : Nat) :
    (s.retire stripe = s.retired stripe ∧ (s.job.state = .stopping → retireWindow s.job.window stripe ≠ [])) ∨
    (retireWindow s.job.window stripe = [] ∧ s.job.n = s.stripeCount ∧ s.job.state.completable = true ∧
      s.retire stripe = (s.retired stripe).complete) ∨
    (retireWindow s.job.window stripe = [] ∧ s.job.state = .stopping ∧
      s.retire stripe = ((s.retired stripe).jobTo .stopped .command).answerStop .good) := by
  obtain ⟨ahead, channel, notices, e⟩ := s.retired_spec stripe
  have unfolded : s.retire stripe = if retireWindow s.job.window stripe ≠ [] then s.retired stripe
      else if (s.retired stripe).job.n = (s.retired stripe).stripeCount ∧ (s.retired stripe).job.state.completable then
        (s.retired stripe).complete
      else if (s.retired stripe).job.state = .stopping then ((s.retired stripe).jobTo .stopped .command).answerStop .good
      else s.retired stripe := rfl
  have hn : (s.retired stripe).job.n = s.job.n := by rw [e]
  have hc : (s.retired stripe).stripeCount = s.stripeCount := by rw [e]; rfl
  have hs : (s.retired stripe).job.state = s.job.state := by rw [e]
  rw [unfolded, hn, hc, hs]
  by_cases hw : retireWindow s.job.window stripe = []
  · by_cases hd : s.job.n = s.stripeCount ∧ s.job.state.completable = true
    · exact .inr (.inl ⟨hw, hd.1, hd.2, by simp [hw, hd]⟩)
    · by_cases ht : s.job.state = .stopping
      · exact .inr (.inr ⟨hw, ht, by rw [if_neg (by simp [hw]), if_neg hd, if_pos ht]⟩)
      · exact .inl ⟨by rw [if_neg (by simp [hw]), if_neg hd, if_neg ht], fun h => absurd h ht⟩
  · exact .inl ⟨by simp [hw], fun _ => hw⟩

/-- What appending a lost entry writes (R138): the list, and PAUSED where it is full and the job was ACTIVE. -/
theorem State.appendLost_spec (s : State) (e : LostEntry) : ∃ state cause tx queue lost, s.appendLost e = { s with
      lost := { entries := s.lost.entries ++ [e], reservations := s.lost.reservations - 1 }
      job := { s.job with state, cause }
      channel := { s.channel with tx }, notices := { s.notices with queue, lost } } ∧
    (state = s.job.state ∨ s.job.state = .active ∧ state = .paused) := by
  let s1 : State :=
    { s with lost := { entries := s.lost.entries ++ [e], reservations := s.lost.reservations - 1 } }
  have told : s1.Notified (s1.notify (.lostAdded e.stripe e.items.length)) := s1.notify_notified _
  unfold State.appendLost
  dsimp only
  split
  · have full := told.trans (State.notify_notified _ .lostFull)
    split
    · next ha =>
      obtain ⟨tx, queue, lost, e2⟩ := full
      rcases State.jobTo_cases (State.notify (s1.notify (.lostAdded e.stripe e.items.length)) .lostFull) .paused .lostFull with
        ⟨-, e1⟩ | ⟨-, e1⟩ <;> rw [e1, e2]
      · exact ⟨_, _, _, _, _, rfl, .inr ⟨ha, rfl⟩⟩
      · obtain ⟨_, _, _, e3⟩ := State.notify_notified { s1 with
          channel := { s1.channel with tx }, notices := { s1.notices with queue, lost }
          job := { s1.job with state := .paused, cause := .lostFull } } (.jobState .paused .lostFull s.job.w)
        exact ⟨_, _, _, _, _, e3, .inr ⟨ha, rfl⟩⟩
    · obtain ⟨tx, queue, lost, e2⟩ := full
      rw [e2]
      exact ⟨_, _, _, _, _, rfl, .inl rfl⟩
  · obtain ⟨tx, queue, lost, e2⟩ := told
    rw [e2]
    exact ⟨_, _, _, _, _, rfl, .inl rfl⟩

/-- The state in which a SWEEP context with this window entry has reported its end: its lost entry appended or its
reservation released, and its origin gone (R90 steps 1 and 2). -/
def State.reported (s : State) (c : CtxId) : State :=
  let s1 := { s with engine := { s.engine with sticky := s.engine.sticky.or (s.ctx c).flags } }
  (if (s.ctx c).classes.any LaneClass.lost then s1.appendLost (s1.lostEntry c) else s1.releaseReservation).setCtx c
    { s.ctx c with origin := .noRequest }

theorem State.sweepEnd_cases (s : State) (c : CtxId) : (s.sweepEnd c).2 = s ∨
    ∃ t, (s.ctx c).origin = .window t ∧ (s.sweepEnd c).2 = (s.reported c).retire t := by
  unfold State.sweepEnd
  dsimp only
  split
  · next t ht => exact .inr ⟨t, ht, rfl⟩
  all_goals exact .inl rfl

/-- What the report of a SWEEP context's end writes (R90, R137, R138). -/
theorem State.reported_spec (s : State) (c : CtxId) : ∃ state cause entries channel notices sticky,
    s.reported c = { s with
      lost := { entries, reservations := s.lost.reservations - 1 }
      job := { s.job with state, cause }, channel, notices
      engine := { s.engine with ctxs := s.engine.ctxs.set c { s.ctx c with origin := .noRequest }, sticky } } ∧
    entries.length ≤ s.lost.entries.length + 1 ∧
    (state = s.job.state ∨ s.job.state = .active ∧ state = .paused) := by
  unfold State.reported
  dsimp only
  split
  · obtain ⟨state, cause, tx, queue, lost, e, h⟩ := State.appendLost_spec
      { s with engine := { s.engine with sticky := s.engine.sticky.or (s.ctx c).flags } }
      (State.lostEntry { s with engine := { s.engine with sticky := s.engine.sticky.or (s.ctx c).flags } } c)
    rw [e]
    exact ⟨state, cause, _, _, _, _, rfl, by simp, h⟩
  · exact ⟨_, _, s.lost.entries, _, _, _, rfl, by simp, .inl rfl⟩

/-! ## The end of a job -/

/-- What abandoning contexts leaves (R95): ports with their roles and marks, and every block but the engine, the lock table
and the in-flight table. -/
theorem State.abandon_frame (s : State) (cs : List CtxId) : (s.abandon cs).job = s.job ∧
    (s.abandon cs).target = s.target ∧ (s.abandon cs).lost = s.lost ∧
    (∀ p, (s.abandon cs).port p = (s.port p).orphanCtxs cs) ∧
    ∀ c, (s.abandon cs).ctx c = if c ∈ cs then .blank (s.ctx c).serial else s.ctx c := by
  refine ⟨by simp [State.abandon], by simp [State.abandon], by simp [State.abandon], fun p => ?_, fun c => ?_⟩
  · unfold State.abandon
    rw [State.port_congr (State.freeCtxs_ports _ _), State.port_mapPorts]
  · unfold State.abandon
    rw [State.ctx_freeCtxs]
    rfl

/-- What the end of an unbound job writes (R104, R117). -/
theorem State.jobEnds_spec (s : State) (cause : JobCause) :
    (s.jobEnds cause).job = { s.job with state := .idle, cause, target := none, spare := none, armed := none
                                         settle := none, w := 0, n := 0, window := [], ahead := [], awaiting := none } ∧
    (s.jobEnds cause).ports = s.unbind.ports ∧ (s.jobEnds cause).target.committed = s.target.committed ∧
    (s.jobEnds cause).target.policy = s.target.policy ∧ (s.jobEnds cause).engine = s.engine ∧
    (s.jobEnds cause).lost = { s.lost with
      reservations := s.lost.reservations - s.job.window.countP (fun e => !e.done) } := by
  have h : s.dropWindow.unbind.ports = s.unbind.ports := by
    unfold State.unbind; simp only [State.dropWindow_spare]; split <;> rfl
  have hj : s.dropWindow.job = { s.job with window := [], ahead := [] } := rfl
  have hl : s.dropWindow.lost = { s.lost with
    reservations := s.lost.reservations - s.job.window.countP (fun e => !e.done) } := rfl
  unfold State.jobEnds
  simp [h, hj, hl]

/-- What clearing the mark of the spare makes of a port (R101). -/
theorem State.port_unbind (s : State) (p : PortId) :
    s.unbind.port p = { s.port p with bound := (s.port p).bound && s.job.spare ≠ some p } := by
  unfold State.unbind
  split
  · next q hq => by_cases h : q = p <;> simp [hq, h]
  · next hq => simp [hq]

/-- The contexts a spare loss abandons (R117). -/
def State.spareLossCtxs (s : State) : List CtxId :=
  allCtxs.filter (fun c => s.sweepCtxs.contains c || s.fillCtxs.contains c)

/-- The requests of FILL contexts a spare loss hands back (R117). -/
def State.handedBack (s : State) : List Nat := s.fillCtxs.filterMap (fun c => (s.ctx c).request)

/-- The state with those requests back in ROUTING. -/
def State.withHandedBack (s : State) : State :=
  s.handedBack.foldl (fun t tag => t.setEntry tag (InFlight.toRouting .issued)) s

/-- A spare loss, with the arming that may follow it (R117, R118). -/
theorem State.spareLoss_state (s : State) :
    s.spareLoss.2 = ((s.withHandedBack.abandon s.spareLossCtxs).jobEnds .spareLost).armIfDue := by
  unfold State.spareLoss State.withHandedBack State.handedBack State.spareLossCtxs
  dsimp only [State.arm]

theorem State.withHandedBack_keepsJob (s : State) : s.KeepsJob s.withHandedBack := State.foldl_setEntry_keepsJob _ _ _

/-! ## The start -/

/-- The state a start has written before the job goes ACTIVE or completes (R102 steps 1 to 3). -/
def State.begun (s : State) (m : Nat) (p : PortId) (r : Nat) : Bool → State
  | true => State.setPort { s with
      job := { s.job with w := r, n := r, settle := none, armed := none, target := some m, spare := some p }
      notices := { s.notices with milestones := s.notices.milestones.filter (fun e => r < e.target) } } p
        { s.port p with bound := true }
  | false => { s with
      job := { s.job with w := r, n := r, settle := none, armed := none }
      notices := { s.notices with milestones := s.notices.milestones.filter (fun e => r < e.target) } }

/-- A start goes ACTIVE, or completes at once where it resumes at StripeCount (R102). -/
theorem State.start_eq (s : State) (m : Nat) (p : PortId) (r : Nat) (cause : JobCause) (fresh : Bool) :
    s.start m p r cause fresh = if r = s.stripeCount then (s.begun m p r fresh).complete
      else (s.begun m p r fresh).jobTo .active cause := by
  cases fresh <;> rfl

/-- A fresh start marks its spare, and no start changes a port besides (R102). -/
theorem State.port_begun (s : State) (m : Nat) (p : PortId) (r : Nat) (fresh : Bool) (q : PortId) :
    (s.begun m p r fresh).port q = { s.port q with bound := (s.port q).bound || (fresh && p = q) } := by
  cases fresh with
  | true =>
    simp only [State.begun, State.port_setPort]
    by_cases h : p = q <;> simp [h, State.port]
  | false => simp [State.begun, State.port]

/-! ## Installation -/

/-- What the installation of the staged map writes (R5, R6). -/
theorem State.installMap_spec (s : State) :
    s.installMap.job = { s.job with state := .idle, cause := .command, target := none, spare := none, armed := none
                                    settle := none, w := 0, n := 0, window := [], ahead := [] } ∧
    (∀ p, s.installMap.port p = (s.port p).installed (s.target.staged.roles.get p)) ∧
    s.installMap.target = { s.target with committed := s.target.staged } ∧
    s.installMap.engine = s.engine ∧ s.installMap.lost = s.lost := by
  unfold State.installMap
  dsimp only
  obtain ⟨tx, queue, lost, e⟩ := State.foldl_notify id
    (allPorts.filterMap (fun p => installNotice p (s.port p) (s.target.staged.roles.get p)))
    (State.jobIdle { s with
      target := { s.target with committed := s.target.staged }
      ports := Vector.ofFn (fun p => (s.port p).installed (s.target.staged.roles.get p))
      job := { s.job with w := 0, n := 0, window := [], ahead := [] }
      notices := { s.notices with
        milestones := s.notices.milestones.filter (fun e => e.target ≤ s.target.staged.stripeCount) } } .command)
  simp only [id] at e
  rw [e]
  refine ⟨by simp, fun p => ?_, by simp, by simp, by simp⟩
  simp [State.port_eq]

end Sys2Proof.Machine
end

section
/-! SUPPORT. The role copies of the ports and the committed map (R1): every event of the job keeps them equal. -/
namespace Sys2Proof.Machine

/-- Roles and committed map as they were stay equal. -/
theorem State.RoleInv.of_eq {s t : State} (h : s.RoleInv) (ports : ∀ p, (t.port p).role = (s.port p).role)
    (committed : t.target.committed = s.target.committed) : t.RoleInv := fun p => by rw [ports, committed, h p]

/-- The role exchange of a completion changes the port and the committed map alike (R11). -/
theorem State.RoleInv.complete {s : State} (h : s.RoleInv) : s.complete.RoleInv := by
  cases ht : s.job.target with
  | none => rw [State.complete_of_none (.inl ht)]; exact h
  | some t =>
    cases hp : s.job.spare with
    | none => rw [State.complete_of_none (.inr hp)]; exact h
    | some p =>
      obtain ⟨-, ports, committed, -⟩ := State.complete_spec ht hp
      intro q
      rw [State.port_congr ports, committed, State.roles_roleExchange, State.port_roleExchange, h q]

theorem State.RoleInv.retire {s : State} (h : s.RoleInv) (stripe : Nat) : (s.retire stripe).RoleInv := by
  have retired : (s.retired stripe).RoleInv := by
    obtain ⟨_, _, _, e⟩ := s.retired_spec stripe
    rw [e]
    exact h
  rcases s.retire_cases stripe with ⟨e, -⟩ | ⟨-, -, -, e⟩ | ⟨-, -, e⟩ <;> rw [e]
  · exact retired
  · exact retired.complete
  · exact retired.of_eq (fun p => by simp [State.port]) (by simp)

theorem State.RoleInv.abandon {s : State} (h : s.RoleInv) (cs : List CtxId) : (s.abandon cs).RoleInv := by
  obtain ⟨-, target, -, ports, -⟩ := s.abandon_frame cs
  exact h.of_eq (fun p => by rw [ports]; rfl) (by rw [target])

theorem State.RoleInv.jobEnds {s : State} (h : s.RoleInv) (cause : JobCause) : (s.jobEnds cause).RoleInv := by
  obtain ⟨-, ports, committed, -⟩ := s.jobEnds_spec cause
  exact h.of_eq (fun p => by rw [State.port_congr ports, State.port_unbind]) committed

theorem State.RoleInv.armIfDue {s : State} (h : s.RoleInv) : s.armIfDue.RoleInv := by
  rcases s.armIfDue_cases with e | ⟨_, -, -, -, e⟩ <;> rw [e]
  · exact h
  · exact h.of_eq (fun p => by simp [State.port]) (by simp)

theorem State.RoleInv.start {s : State} (h : s.RoleInv) (m : Nat) (p : PortId) (r : Nat) (cause : JobCause)
    (fresh : Bool) : (s.start m p r cause fresh).RoleInv := by
  have begun : (s.begun m p r fresh).RoleInv :=
    h.of_eq (fun q => by rw [State.port_begun]) (by cases fresh <;> rfl)
  rw [State.start_eq]
  split
  · exact begun.complete
  · exact begun.of_eq (fun p => by simp [State.port]) (by simp)

theorem State.RoleInv.jobEvent {s t : State} (h : s.RoleInv) (e : s.JobEvent t) : t.RoleInv := by
  cases e with
  | quiet => exact h
  | sweepEnd c =>
    rcases s.sweepEnd_cases c with e | ⟨u, -, e⟩ <;> rw [e]
    · exact h
    · obtain ⟨_, _, _, _, _, _, e, -⟩ := s.reported_spec c
      have reported : (s.reported c).RoleInv := by rw [e]; exact h
      exact reported.retire u
  | secondFault => exact (h.abandon s.sweepCtxs).of_eq (fun p => by simp [State.secondFault, State.port]) (by simp [State.secondFault])
  | spareLoss p =>
    have back := s.withHandedBack_keepsJob
    rw [State.spareLoss_state]
    exact (((h.of_eq back.role back.committed).abandon s.spareLossCtxs).jobEnds .spareLost).armIfDue
  | abandon => exact (h.abandon _).jobEnds .command
  | disarm cause => exact h.of_eq (fun p => by simp [State.port]) (by simp)
  | arm => exact h.armIfDue
  | skip =>
    unfold State.skipCursor
    dsimp only
    split
    · obtain ⟨_, _, e⟩ := State.advanceW_spec { s with job := { s.job with n := s.job.n + 1 } } (s.job.n + 1)
      rw [e]
      exact h
    · exact h
  | complete => exact h.complete
  | launch c => exact h
  | start m p r cause fresh => exact h.start m p r cause fresh
  | stop => exact h.of_eq (fun p => by simp [State.port]) (by simp)
  | stopping => exact h.of_eq (fun p => by simp [State.port]) (by simp)
  | resume => exact h.of_eq (fun p => by simp [State.port]) (by simp)
  | install =>
    obtain ⟨-, ports, target, -⟩ := s.installMap_spec
    intro p
    rw [ports, target]
    rfl
  | reset kind frames =>
    intro p
    simp [State.resetAs, State.port_eq, Port.afterReset, Target.afterReset, MemberMap.empty]

end Sys2Proof.Machine

open Sys2Proof Sys2Proof.Machine

/-- Settles O58: the job's events keep the role copies equal to the committed map, and nothing else writes either. -/
theorem roleCopiesKept : Obligations.RoleCopiesKept := fun _ _ hs h =>
  (Kept.of_jobEvents (P := State.RoleInv) (fun _ _ keeps h => h.of_eq keeps.role keeps.committed)
    (fun _ _ e h => h.jobEvent e)).step hs h

end

section
/-! SUPPORT. The bound mark (R99, R101): every event of the job keeps it on P exactly while the job is bound. -/
namespace Sys2Proof.Machine

/-- A state with the marks, the roles, T, P and a job state bound as that of s. -/
theorem State.MarkInv.of_eq {s t : State} (h : s.MarkInv) (role : ∀ p, (t.port p).role = (s.port p).role)
    (bound : ∀ p, (t.port p).bound = (s.port p).bound) (state : t.job.state.bound = s.job.state.bound)
    (target : t.job.target = s.job.target) (spare : t.job.spare = s.job.spare) : t.MarkInv where
  mark p := by rw [bound, state, spare]; exact h.mark p
  role p := by rw [bound, role]; exact h.role p
  job := by rw [state, target, spare]; exact h.job

/-- An unbound job and no mark. -/
theorem State.MarkInv.of_unbound {t : State} (state : t.job.state.bound = false) (bound : ∀ p, (t.port p).bound = false) :
    t.MarkInv where
  mark p := by simp [state, bound]
  role p := by simp [bound]
  job := by simp [state]

/-- Without a bound job no port bears the mark. -/
theorem State.MarkInv.no_mark {s : State} (h : s.MarkInv) (state : s.job.state.bound = false) (p : PortId) :
    (s.port p).bound = false := by
  cases hb : (s.port p).bound with
  | false => rfl
  | true =>
    have := ((h.mark p).mp hb).1
    rw [state] at this
    cases this

/-- Only P bears the mark. -/
theorem State.MarkInv.eq_spare {s : State} (h : s.MarkInv) {p q : PortId} (hp : s.job.spare = some p)
    (hq : (s.port q).bound = true) : q = p := by
  have := ((h.mark q).mp hq).2
  rw [hp] at this
  exact (Option.some.inj this).symm

/-- A change of job state and of nothing that marks or roles depend on. -/
theorem State.MarkInv.jobTo {s : State} (h : s.MarkInv) (st : JobState) (cause : JobCause)
    (bound : st.bound = s.job.state.bound) : (s.jobTo st cause).MarkInv :=
  h.of_eq (fun p => by simp [State.port]) (fun p => by simp [State.port]) (by simpa using bound) (by simp) (by simp)

/-- The end of an unbound job leaves it unbound. -/
theorem State.MarkInv.jobIdle {s : State} (h : s.MarkInv) (cause : JobCause) (bound : s.job.state.bound = false) :
    (s.jobIdle cause).MarkInv :=
  .of_unbound (by simp [JobState.bound]) (fun p => by simpa [State.port] using h.no_mark bound p)

/-- Completion takes the mark from the one port that bears it (R112). -/
theorem State.markInv_complete {s : State} {t : Nat} {p : PortId} (ht : s.job.target = some t) (hp : s.job.spare = some p)
    (only : ∀ q, (s.port q).bound = true → q = p) : s.complete.MarkInv := by
  obtain ⟨job, ports, -⟩ := State.complete_spec ht hp
  refine .of_unbound (by rw [job]; rfl) (fun q => ?_)
  rw [State.port_congr ports, State.port_roleExchange]
  cases hq : (s.port q).bound with
  | false => rfl
  | true => simp [only q hq]

theorem State.MarkInv.complete {s : State} (h : s.MarkInv) : s.complete.MarkInv := by
  cases ht : s.job.target with
  | none => rw [State.complete_of_none (.inl ht)]; exact h
  | some t =>
    cases hp : s.job.spare with
    | none => rw [State.complete_of_none (.inr hp)]; exact h
    | some p => exact State.markInv_complete ht hp fun q => h.eq_spare hp

theorem State.MarkInv.retire {s : State} (h : s.MarkInv) (stripe : Nat) : (s.retire stripe).MarkInv := by
  obtain ⟨_, _, _, e⟩ := s.retired_spec stripe
  have state : (s.retired stripe).job.state = s.job.state := by rw [e]
  have retired : (s.retired stripe).MarkInv := by rw [e]; exact h.of_eq (fun _ => rfl) (fun _ => rfl) rfl rfl rfl
  rcases s.retire_cases stripe with ⟨e, -⟩ | ⟨-, -, -, e⟩ | ⟨-, hst, e⟩ <;> rw [e]
  · exact retired
  · exact retired.complete
  · exact (retired.jobTo .stopped .command (by rw [state, hst]; rfl)).of_eq
      (fun p => by simp [State.port]) (fun p => by simp [State.port]) (by simp) (by simp) (by simp)

theorem State.MarkInv.reported {s : State} (h : s.MarkInv) (c : CtxId) : (s.reported c).MarkInv := by
  obtain ⟨state, _, _, _, _, _, e, -, hs⟩ := s.reported_spec c
  rw [e]
  refine h.of_eq (fun _ => rfl) (fun _ => rfl) ?_ rfl rfl
  rcases hs with hs | ⟨ha, hs⟩
  · rw [hs]
  · rw [hs, ha]; rfl

theorem State.MarkInv.abandon {s : State} (h : s.MarkInv) (cs : List CtxId) : (s.abandon cs).MarkInv := by
  obtain ⟨job, -, -, ports, -⟩ := s.abandon_frame cs
  exact h.of_eq (fun p => by rw [ports]; rfl) (fun p => by rw [ports]; rfl) (by rw [job]) (by rw [job]) (by rw [job])

theorem State.MarkInv.jobEnds {s : State} (h : s.MarkInv) (cause : JobCause) : (s.jobEnds cause).MarkInv := by
  obtain ⟨job, ports, -⟩ := s.jobEnds_spec cause
  refine .of_unbound (by rw [job]; rfl) (fun p => ?_)
  rw [State.port_congr ports, State.port_unbind]
  cases hb : (s.port p).bound with
  | false => rfl
  | true => simp [((h.mark p).mp hb).2]

theorem State.MarkInv.armIfDue {s : State} (h : s.MarkInv) : s.armIfDue.MarkInv := by
  rcases s.armIfDue_cases with e | ⟨_, -, -, hst, e⟩ <;> rw [e]
  · exact h
  · refine h.of_eq (fun p => by simp [State.port]) (fun p => by simp [State.port]) ?_ (by simp) (by simp)
    rcases hst with hst | hst <;> simp [hst, JobState.bound]

/-- The fresh states are unbound (R99, R102). -/
theorem JobState.bound_of_fresh {st : JobState} (h : st.fresh = true) : st.bound = false := by
  cases st <;> first | rfl | cases h

/-- A start binds P, or goes on with the bound job, and completes at once where it resumes at the end (R102). -/
theorem State.MarkInv.start {s : State} (h : s.MarkInv) (m : Nat) {p : PortId} {r : Nat} (cause : JobCause) {fresh : Bool}
    (may : s.MayStart p r fresh) : (s.start m p r cause fresh).MarkInv := by
  rw [State.start_eq]
  cases fresh with
  | true =>
    obtain ⟨hf, role, -⟩ := may
    have marked (q : PortId) : ((s.begun m p r true).port q).bound = true ↔ p = q := by
      simp [State.port_begun, h.no_mark (JobState.bound_of_fresh hf)]
    split
    · exact State.markInv_complete (t := m) (p := p) rfl rfl fun q hq => ((marked q).mp hq).symm
    · have port (q : PortId) : ((s.begun m p r true).jobTo .active cause).port q = (s.begun m p r true).port q :=
        State.port_congr (by simp) q
      refine ⟨fun q => ?_, fun q hq => ?_, by simp [State.begun]⟩
      · rw [port, marked]
        simp [State.begun, JobState.bound]
      · rw [port, marked] at hq
        rw [port, State.port_begun, ← hq]
        exact role
  | false =>
    obtain ⟨hst, ht, hp, -⟩ := may
    have begun : (s.begun m p r false).MarkInv :=
      h.of_eq (fun _ => rfl) (fun _ => rfl) rfl rfl rfl
    split
    · exact begun.complete
    · refine begun.jobTo .active cause ?_
      rcases hst with hst | hst <;> simp [State.begun, hst, JobState.bound]

theorem State.MarkInv.jobEvent {s t : State} (h : s.MarkInv) (e : s.JobEvent t) : t.MarkInv := by
  cases e with
  | quiet => exact h
  | sweepEnd c =>
    rcases s.sweepEnd_cases c with e | ⟨u, -, e⟩ <;> rw [e]
    · exact h
    · exact (h.reported c).retire u
  | secondFault hst =>
    have job : (s.abandon s.sweepCtxs).job = s.job := (s.abandon_frame s.sweepCtxs).1
    refine (h.abandon s.sweepCtxs).of_eq (fun p => ?_) (fun p => ?_) ?_ ?_ ?_
    · simp [State.secondFault, State.port]
    · simp [State.secondFault, State.port]
    · cases hs : s.job.state <;> simp [hs, JobState.sweepable] at hst <;> simp [State.secondFault, job, hs, JobState.bound]
    · simp [State.secondFault]
    · simp [State.secondFault]
  | spareLoss p =>
    have back := s.withHandedBack_keepsJob
    rw [State.spareLoss_state]
    exact (((h.of_eq back.role back.bound (by rw [back.state]) back.target back.spare).abandon _).jobEnds _).armIfDue
  | abandon => exact (h.abandon _).jobEnds .command
  | disarm cause hst => exact h.jobIdle cause (by rw [hst]; rfl)
  | arm => exact h.armIfDue
  | skip =>
    unfold State.skipCursor
    dsimp only
    split
    · obtain ⟨_, _, e⟩ := State.advanceW_spec { s with job := { s.job with n := s.job.n + 1 } } (s.job.n + 1)
      rw [e]
      exact h.of_eq (fun _ => rfl) (fun _ => rfl) rfl rfl rfl
    · exact h.of_eq (fun _ => rfl) (fun _ => rfl) rfl rfl rfl
  | complete => exact h.complete
  | launch c => exact h.of_eq (fun _ => rfl) (fun _ => rfl) rfl rfl rfl
  | start m p r cause fresh may => exact h.start m cause may
  | stop hst => exact h.jobTo _ _ (by rcases hst with hst | hst <;> rw [hst] <;> rfl)
  | stopping hst => exact h.jobTo _ _ (by rcases hst with hst | hst <;> rw [hst] <;> rfl)
  | resume hst => exact h.jobTo _ _ (by rw [hst]; rfl)
  | install =>
    obtain ⟨job, ports, -⟩ := s.installMap_spec
    exact .of_unbound (by rw [job]; rfl) fun p => by rw [ports]; rfl
  | reset kind frames => exact .of_unbound rfl fun p => by simp [State.resetAs, State.port_eq, Port.afterReset]

end Sys2Proof.Machine

open Sys2Proof Sys2Proof.Machine

/-- Settles O56: only the events of the job touch marks, roles, T, P or the job's state. -/
theorem markKept : Obligations.MarkKept := fun _ _ hs h =>
  (Kept.of_jobEvents (P := State.MarkInv)
    (fun _ _ keeps h => h.of_eq keeps.role keeps.bound (by rw [keeps.state]) keeps.target keeps.spare)
    (fun _ _ e h => h.jobEvent e)).step hs h

end

section
/-! SUPPORT. The watermark, the cursor, the sweep window and the lost block list (R102, R105, R107 to R109, R137): every
event of the job keeps their order and their bonds with the SWEEP contexts. -/
namespace Sys2Proof.Machine

/-! ## The window -/

/-- The window entry of a stripe turned DONE (R109 step 1). -/
def markDone (stripe : Nat) (e : WindowEntry) : WindowEntry := if e.stripe = stripe then { e with done := true } else e

theorem retireWindow_eq (window : List WindowEntry) (stripe : Nat) :
    retireWindow window stripe = (window.map (markDone stripe)).dropWhile (·.done) := rfl

@[simp] theorem markDone_stripe (stripe : Nat) (e : WindowEntry) : (markDone stripe e).stripe = e.stripe := by
  unfold markDone; split <;> rfl

theorem markDone_done (stripe : Nat) (e : WindowEntry) :
    (markDone stripe e).done = true ↔ e.stripe = stripe ∨ e.done = true := by
  unfold markDone; split <;> simp_all

/-- An entry of the window once a stripe has been retired stood there before, with that stripe DONE. -/
theorem exists_of_mem_retireWindow {window : List WindowEntry} {stripe : Nat} {e : WindowEntry}
    (h : e ∈ retireWindow window stripe) : ∃ x ∈ window, e = markDone stripe x := by
  obtain ⟨x, hx, rfl⟩ := List.mem_map.mp ((List.dropWhile_sublist _).mem h)
  exact ⟨x, hx, rfl⟩

/-- What is dropped from the head of a list fails no test: an element that fails it stays. -/
theorem mem_dropWhile_of_not {α : Type} {p : α → Bool} {x : α} {l : List α} (hx : x ∈ l) (hp : p x = false) :
    x ∈ l.dropWhile p := by
  induction l with
  | nil => cases hx
  | cons y l ih =>
    rw [List.dropWhile_cons]
    split
    · next hy =>
      rcases List.mem_cons.mp hx with rfl | hx
      · simp [hp] at hy
      · exact ih hx
    · exact hx

/-- An IN_FLIGHT entry of another stripe stays in the window (R109 step 1). -/
theorem mem_retireWindow {window : List WindowEntry} {stripe : Nat} {e : WindowEntry} (he : e ∈ window)
    (hs : e.stripe ≠ stripe) (hd : e.done = false) : e ∈ retireWindow window stripe := by
  have : markDone stripe e = e := by simp [markDone, hs]
  exact mem_dropWhile_of_not (List.mem_map.mpr ⟨e, he, this⟩) hd

/-- The DONE entries dropped at the head count for nothing among the IN_FLIGHT ones. -/
theorem countP_dropWhile_done (l : List WindowEntry) :
    (l.dropWhile (·.done)).countP (fun e => !e.done) = l.countP (fun e => !e.done) := by
  induction l with
  | nil => rfl
  | cons e l ih => cases h : e.done <;> simp [h, ih]

/-- Turning DONE the one IN_FLIGHT entry of a stripe takes one from their count. -/
theorem countP_markDone {window : List WindowEntry} {stripe : Nat}
    (asc : window.Pairwise (fun a b => a.stripe < b.stripe))
    (he : ∃ e ∈ window, e.stripe = stripe ∧ e.done = false) :
    (window.map (markDone stripe)).countP (fun e => !e.done) + 1 = window.countP (fun e => !e.done) := by
  induction window with
  | nil => obtain ⟨e, h, -⟩ := he; cases h
  | cons x l ih =>
    obtain ⟨hx, hl⟩ := List.pairwise_cons.mp asc
    by_cases hs : x.stripe = stripe
    · have same : l.map (markDone stripe) = l := by
        refine (List.map_congr_left fun e h => ?_).trans (List.map_id l)
        exact if_neg (by have := hx e h; omega)
      have undone : x.done = false := by
        obtain ⟨e, h, h1, h2⟩ := he
        rcases List.mem_cons.mp h with rfl | h
        · exact h2
        · have := hx e h; omega
      simp [markDone, same, hs, undone]
    · have rest : ∃ e ∈ l, e.stripe = stripe ∧ e.done = false := by
        obtain ⟨e, h, h1, h2⟩ := he
        rcases List.mem_cons.mp h with rfl | h
        · exact absurd h1 hs
        · exact ⟨e, h, h1, h2⟩
      have := ih hl rest
      have hm : markDone stripe x = x := by simp [markDone, hs]
      simp only [List.map_cons, List.countP_cons, hm]
      omega

/-- One retirement takes one from the count of the IN_FLIGHT entries (R109 step 1). -/
theorem countP_retireWindow {window : List WindowEntry} {stripe : Nat}
    (asc : window.Pairwise (fun a b => a.stripe < b.stripe))
    (he : ∃ e ∈ window, e.stripe = stripe ∧ e.done = false) :
    (retireWindow window stripe).countP (fun e => !e.done) + 1 = window.countP (fun e => !e.done) := by
  rw [retireWindow_eq, countP_dropWhile_done, countP_markDone asc he]

theorem retireWindow_ascending {window : List WindowEntry} {stripe : Nat}
    (asc : window.Pairwise (fun a b => a.stripe < b.stripe)) :
    (retireWindow window stripe).Pairwise (fun a b => a.stripe < b.stripe) := by
  rw [retireWindow_eq]
  refine List.Pairwise.sublist (List.dropWhile_sublist _) ?_
  simpa [List.pairwise_map] using asc

theorem retireWindow_length (window : List WindowEntry) (stripe : Nat) :
    (retireWindow window stripe).length ≤ window.length := by
  simpa [retireWindow_eq] using (List.dropWhile_sublist (p := (·.done)) (l := window.map (markDone stripe))).length_le

/-! ## The invariants under changes that leave the job as it was -/

/-- `allCtxs` names every context. -/
theorem mem_allCtxs (c : CtxId) : c ∈ allCtxs := by
  revert c
  decide

theorem State.SweepInv.workers {s : State} (h : s.SweepInv) : s.Workers := fun c u hu =>
  ⟨(h.worker c u hu).1, (h.worker c u hu).2.1⟩

theorem State.CursorInv.keepsJob {s t : State} (h : s.CursorInv) (k : s.KeepsJob t) : t.CursorInv where
  watermark := by rw [k.w, k.n]; exact h.watermark
  cursor := by rw [k.n, State.stripeCount, k.committed]; exact h.cursor
  window := by rw [k.window, k.n]; exact h.window
  empty := by rw [k.state, k.window]; exact h.empty

theorem State.SweepInv.keepsJob {s t : State} (h : s.SweepInv) (k : s.KeepsJob t) : t.SweepInv where
  depth := k.depth h.depth
  length := by rw [k.window]; exact h.length
  ascending := by rw [k.window]; exact h.ascending
  worker c u hu := by
    obtain ⟨back, forth⟩ := k.ctxs h.workers c
    obtain ⟨hs, hk, ht, he⟩ := h.worker c u (back u hu)
    obtain ⟨-, gt, gk, gs⟩ := forth u (back u hu)
    exact ⟨gs hs, gk.trans hk, gt.trans ht, by rw [k.window]; exact he⟩
  single c d u hc hd := h.single c d u ((k.ctxs h.workers c).back u hc) ((k.ctxs h.workers d).back u hd)
  inFlight e he hd := by
    obtain ⟨c, hc⟩ := h.inFlight e (k.window ▸ he) hd
    exact ⟨c, ((k.ctxs h.workers c).forth _ hc).1⟩
  reservations := by rw [k.reservations, k.window]; exact h.reservations
  lost := (Nat.add_le_add k.entries k.reservations.le).trans h.lost

/-- The contexts, the window, the list of lost blocks and the policy as they were. -/
theorem State.SweepInv.of_eq {s t : State} (h : s.SweepInv) (ctxs : t.engine.ctxs = s.engine.ctxs)
    (window : t.job.window = s.job.window) (lost : t.lost = s.lost) (policy : t.target.policy = s.target.policy) :
    t.SweepInv where
  depth := by rw [policy]; exact h.depth
  length := by rw [window]; exact h.length
  ascending := by rw [window]; exact h.ascending
  worker c u hu := by rw [State.ctx_congr ctxs] at hu ⊢; rw [window]; exact h.worker c u hu
  single c d u hc hd := by rw [State.ctx_congr ctxs] at hc hd; exact h.single c d u hc hd
  inFlight e he hd := by
    obtain ⟨c, hc⟩ := h.inFlight e (window ▸ he) hd
    exact ⟨c, by rw [State.ctx_congr ctxs]; exact hc⟩
  reservations := by rw [lost, window]; exact h.reservations
  lost := by rw [lost]; exact h.lost

/-- An empty window, no context that works for one, no reservation. -/
theorem State.SweepInv.of_empty {t : State} (window : t.job.window = []) (idle : ∀ c u, (t.ctx c).origin ≠ .window u)
    (reservations : t.lost.reservations = 0) (entries : t.lost.entries.length ≤ Config.lostBound)
    (depth : t.target.policy.sweepDepth ≤ 8) : t.SweepInv where
  depth := depth
  length := by simp [window]
  ascending := by simp [window]
  worker c u hu := absurd hu (idle c u)
  single c d u hc := absurd hc (idle c u)
  inFlight := by simp [window]
  reservations := by simp [window, reservations]
  lost := by rw [reservations]; exact entries

/-- With an empty window no context works for one. -/
theorem State.SweepInv.idle_of_empty {s : State} (h : s.SweepInv) (hw : s.job.window = []) (c : CtxId) (u : Nat) :
    (s.ctx c).origin ≠ .window u := by
  intro hu
  obtain ⟨-, -, -, e, he, -⟩ := h.worker c u hu
  rw [hw] at he
  cases he

theorem State.SweepInv.entries {s : State} (h : s.SweepInv) : s.lost.entries.length ≤ Config.lostBound :=
  (Nat.le_add_right _ _).trans h.lost

/-- Once the SWEEP contexts have gone no context works for the window. -/
theorem State.SweepInv.idle_of_abandoned {s : State} (h : s.SweepInv) {cs : List CtxId}
    (hcs : ∀ c ∈ s.sweepCtxs, c ∈ cs) (c : CtxId) (u : Nat) : ((s.abandon cs).ctx c).origin ≠ .window u := by
  rw [(s.abandon_frame cs).2.2.2.2]
  split
  · exact Context.blank_no_window _ _
  · next hc =>
    intro hu
    obtain ⟨hs, hk, -⟩ := h.worker c u hu
    exact hc (hcs c (by simp [State.sweepCtxs, mem_allCtxs, hs, hk]))

/-! ## The events -/

/-- Both invariants of the sweep. -/
def State.SweepKept (s : State) : Prop := s.CursorInv ∧ s.SweepInv

/-- A job state that may hold no window entry where s does not, with W, N and the window as they were. -/
theorem State.CursorInv.of_eq {s t : State} (h : s.CursorInv) (w : t.job.w = s.job.w) (n : t.job.n = s.job.n)
    (window : t.job.window = s.job.window) (count : t.stripeCount = s.stripeCount)
    (state : t.job.state.mayHoldWindow = false → s.job.window = []) : t.CursorInv where
  watermark := by rw [w, n]; exact h.watermark
  cursor := by rw [n, count]; exact h.cursor
  window := by rw [window, n]; exact h.window
  empty ht := by rw [window]; exact state ht

/-- An empty window, with W at most N and N within the array. -/
theorem State.CursorInv.of_empty {t : State} (window : t.job.window = []) (watermark : t.job.w ≤ t.job.n)
    (cursor : t.job.n ≤ t.stripeCount) : t.CursorInv :=
  ⟨watermark, cursor, by simp [window], fun _ => window⟩

theorem State.SweepKept.jobTo {s : State} (h : s.SweepKept) (st : JobState) (cause : JobCause)
    (empty : st.mayHoldWindow = false → s.job.window = []) : (s.jobTo st cause).SweepKept :=
  ⟨h.1.of_eq (by simp) (by simp) (by simp) (by simp [State.stripeCount]) (by simpa using empty),
    h.2.of_eq (by simp) (by simp) (by simp) (by simp)⟩

theorem State.SweepKept.answerStop {s : State} (h : s.SweepKept) (st : Status) : (s.answerStop st).SweepKept :=
  ⟨h.1.keepsJob .of_frame, h.2.keepsJob .of_frame⟩

theorem State.SweepKept.jobIdle {s : State} (h : s.SweepKept) (cause : JobCause) (hw : s.job.window = []) :
    (s.jobIdle cause).SweepKept :=
  ⟨h.1.of_eq (by simp) (by simp) (by simp) (by simp [State.stripeCount]) fun _ => hw,
    h.2.of_eq (by simp) (by simp) (by simp) (by simp)⟩

theorem State.SweepKept.armIfDue {s : State} (h : s.SweepKept) (hst : s.job.state = .idle ∨ s.job.state = .done) :
    s.armIfDue.SweepKept := by
  have hw : s.job.window = [] := h.1.empty (by rcases hst with hst | hst <;> rw [hst] <;> rfl)
  rcases s.armIfDue_cases with e | ⟨_, -, -, -, e⟩ <;> rw [e]
  · exact h
  · exact ⟨h.1.of_eq (by simp) (by simp) (by simp) (by simp [State.stripeCount]) fun _ => hw,
      h.2.of_eq (by simp) (by simp) (by simp) (by simp)⟩

/-- Completion over an empty window (R112). -/
theorem State.SweepKept.complete {s : State} (h : s.SweepKept) (hw : s.job.window = []) : s.complete.SweepKept := by
  cases ht : s.job.target with
  | none => rw [State.complete_of_none (.inl ht)]; exact h
  | some t =>
    cases hp : s.job.spare with
    | none => rw [State.complete_of_none (.inr hp)]; exact h
    | some p =>
      obtain ⟨job, -, committed, policy, engine, lost⟩ := State.complete_spec ht hp
      have count : s.complete.stripeCount = s.stripeCount := by
        obtain ⟨roles, ports, frame⟩ := s.roleExchange_frame t p
        rw [State.stripeCount, committed, frame]
        rfl
      exact ⟨.of_empty (by rw [job]) (by rw [job]; exact h.1.watermark) (by rw [job, count]; exact h.1.cursor),
        h.2.of_eq (by rw [engine]) (by rw [job, hw]) lost policy⟩

/-- What the report of a SWEEP context's end and the retirement of its stripe write (R90, R109). -/
theorem State.retired_reported_spec (s : State) (c : CtxId) (u : Nat) : ∃ state cause entries ahead channel notices sticky,
    (s.reported c).retired u = { s with
      lost := { entries, reservations := s.lost.reservations - 1 }
      job := { s.job with state, cause, window := retireWindow s.job.window u
                          w := s.job.headStripe (retireWindow s.job.window u), ahead }, channel, notices
      engine := { s.engine with ctxs := s.engine.ctxs.set c { s.ctx c with origin := .noRequest }, sticky } } ∧
    entries.length ≤ s.lost.entries.length + 1 ∧
    (state = s.job.state ∨ s.job.state = .active ∧ state = .paused) := by
  obtain ⟨state, cause, entries, channel, notices, sticky, e, hentries, hstate⟩ := s.reported_spec c
  obtain ⟨ahead, channel', notices', e'⟩ := (s.reported c).retired_spec u
  rw [e] at e' ⊢
  exact ⟨state, cause, entries, ahead, channel', notices', sticky, e', hentries, hstate⟩

/-- W stands at the head of the window, below N, or at N (R109 step 2). -/
theorem Job.headStripe_le {j : Job} {window : List WindowEntry} (h : ∀ e ∈ window, e.stripe < j.n) :
    j.headStripe window ≤ j.n := by
  cases window with
  | nil => exact le_rfl
  | cons e _ => exact (h e List.mem_cons_self).le

/-- The retirement of the stripe whose SWEEP context has reported its end, its reservation gone or its entry appended
(R90, R109, R137). -/
theorem State.SweepKept.retired {s : State} (h : s.SweepKept) {c : CtxId} {u : Nat} (hu : (s.ctx c).origin = .window u) :
    ((s.reported c).retired u).SweepKept := by
  obtain ⟨state, cause, entries, ahead, channel, notices, sticky, e, hentries, hstate⟩ := s.retired_reported_spec c u
  obtain ⟨cursor, sweep⟩ := h
  have unique := (sweep.worker c u hu).2.2.2
  have count := countP_retireWindow sweep.ascending unique
  have reservations := sweep.reservations
  have lost := sweep.lost
  have window (x : WindowEntry) (hx : x ∈ retireWindow s.job.window u) : x.stripe < s.job.n := by
    obtain ⟨y, hy, rfl⟩ := exists_of_mem_retireWindow hx
    rw [markDone_stripe]
    exact cursor.window y hy
  have context (d : CtxId) : ((s.reported c).retired u).ctx d = if c = d then { s.ctx c with origin := .noRequest } else s.ctx d := by
    rw [← State.ctx_setCtx]
    exact State.ctx_congr (by rw [e]; rfl) d
  have works (d : CtxId) (v : Nat) : (((s.reported c).retired u).ctx d).origin = .window v ↔
      c ≠ d ∧ (s.ctx d).origin = .window v := by
    rw [context]
    split <;> simp_all
  constructor
  · rw [e]
    refine ⟨Job.headStripe_le window, cursor.cursor, window, fun hm => ?_⟩
    have : s.job.window = [] := by
      rcases hstate with hs | ⟨-, hs⟩
      · exact cursor.empty (hs ▸ hm)
      · rw [show state = .paused from hs] at hm; cases hm
    obtain ⟨x, hx, -⟩ := unique
    rw [this] at hx
    cases hx
  · refine ⟨?_, ?_, ?_, fun d v hv => ?_, fun d d' v hd hd' => ?_, fun x hx hd => ?_, ?_, ?_⟩
    · rw [e]; exact sweep.depth
    · rw [e]; exact (retireWindow_length _ _).trans sweep.length
    · rw [e]; exact retireWindow_ascending sweep.ascending
    · obtain ⟨hne, hv⟩ := (works d v).mp hv
      obtain ⟨hs, hk, ht, x, hx, hxs, hxd⟩ := sweep.worker d v hv
      have distinct : x.stripe ≠ u := fun hxu => hne (sweep.single c d u hu (by rw [hv, ← hxs, hxu]))
      rw [context, if_neg hne, e]
      exact ⟨hs, hk, ht, x, mem_retireWindow hx distinct hxd, hxs, hxd⟩
    · exact sweep.single d d' v ((works d v).mp hd).2 ((works d' v).mp hd').2
    · rw [e] at hx
      obtain ⟨y, hy, rfl⟩ := exists_of_mem_retireWindow hx
      have open_ : ¬ (y.stripe = u ∨ y.done = true) := fun hh => by simp [(markDone_done u y).mpr hh] at hd
      simp only [not_or, Bool.not_eq_true] at open_
      obtain ⟨d, hd⟩ := sweep.inFlight y hy open_.2
      refine ⟨d, (works d _).mpr ⟨fun hcd => open_.1 ?_, by rw [markDone_stripe]; exact hd⟩⟩
      rw [← hcd, hu] at hd
      exact (CtxOrigin.window.inj hd).symm
    · rw [e]; dsimp only; omega
    · rw [e]; dsimp only; omega

/-- A SWEEP context's end keeps the sweep's order and bonds (R90, R109, R112). -/
theorem State.SweepKept.sweepEnd {s : State} (h : s.SweepKept) (c : CtxId) : (s.sweepEnd c).2.SweepKept := by
  rcases s.sweepEnd_cases c with e | ⟨u, hu, e⟩ <;> rw [e]
  · exact h
  · have retired := h.retired hu
    have window : ((s.reported c).retired u).job.window = retireWindow (s.reported c).job.window u := by
      obtain ⟨_, _, _, e⟩ := (s.reported c).retired_spec u
      rw [e]
    rcases (s.reported c).retire_cases u with ⟨e, -⟩ | ⟨hw, -, -, e⟩ | ⟨hw, -, e⟩ <;> rw [e]
    · exact retired
    · exact retired.complete (window.trans hw)
    · exact (retired.jobTo .stopped .command fun _ => window.trans hw).answerStop .good

/-- Abandoned contexts and an emptied window leave neither work nor reservations (R95, R137). -/
theorem State.SweepInv.emptied {s t : State} (h : s.SweepInv) {cs : List CtxId} (hcs : ∀ c ∈ s.sweepCtxs, c ∈ cs)
    (engine : t.engine = (s.abandon cs).engine) (window : t.job.window = [])
    (lost : t.lost = { s.lost with reservations := s.lost.reservations - s.job.window.countP (fun e => !e.done) })
    (policy : t.target.policy = s.target.policy) : t.SweepInv :=
  .of_empty window (fun c u => by rw [State.ctx_congr (congrArg Engine.ctxs engine)]; exact h.idle_of_abandoned hcs c u)
    (by rw [lost, h.reservations]; exact Nat.sub_self _) (by rw [lost]; exact h.entries) (by rw [policy]; exact h.depth)

theorem State.SweepKept.jobEnds {s : State} (h : s.SweepKept) {cs : List CtxId} (hcs : ∀ c ∈ s.sweepCtxs, c ∈ cs)
    (cause : JobCause) : ((s.abandon cs).jobEnds cause).SweepKept := by
  obtain ⟨job, -, committed, policy, engine, lost⟩ := (s.abandon cs).jobEnds_spec cause
  obtain ⟨sjob, starget, slost, -⟩ := s.abandon_frame cs
  exact ⟨.of_empty (by rw [job]) (by rw [job]) (by rw [job]; exact Nat.zero_le _),
    h.2.emptied hcs engine (by rw [job]) (by rw [lost, sjob, slost]) (by rw [policy, starget])⟩

theorem State.SweepKept.secondFault {s : State} (h : s.SweepKept) : s.secondFault.2.SweepKept := by
  obtain ⟨sjob, starget, slost, -⟩ := s.abandon_frame s.sweepCtxs
  have job : s.secondFault.2.job = { s.job with window := [], ahead := [], n := s.job.w, state := .halted
                                                cause := .secondFault, awaiting := none } := by
    simp [State.secondFault, State.dropWindow, sjob]
  refine ⟨.of_empty (by rw [job]) (by rw [job]) ?_, h.2.emptied (fun _ hc => hc) (by simp [State.secondFault])
    (by rw [job]) (by simp [State.secondFault, State.dropWindow, sjob, slost]) (by simp [State.secondFault, starget])⟩
  rw [job]
  have : s.secondFault.2.stripeCount = s.stripeCount := by simp [State.secondFault, State.stripeCount, starget]
  rw [this]
  exact h.1.watermark.trans h.1.cursor

theorem State.SweepKept.skipCursor {s : State} (h : s.SweepKept) (hst : s.job.state = .active)
    (hn : s.job.n < s.stripeCount) : s.skipCursor.SweepKept := by
  have watermark := h.1.watermark
  have stands : s.job.state.mayHoldWindow = true := by rw [hst]; rfl
  have window (e : WindowEntry) (he : e ∈ s.job.window) : e.stripe < s.job.n + 1 := by
    have := h.1.window e he; omega
  unfold State.skipCursor
  dsimp only
  split
  · obtain ⟨channel, notices, e⟩ := State.advanceW_spec { s with job := { s.job with n := s.job.n + 1 } } (s.job.n + 1)
    rw [e]
    exact ⟨⟨le_rfl, hn, window, fun hm => absurd stands (by simp [show s.job.state.mayHoldWindow = false from hm])⟩,
      h.2.of_eq rfl rfl rfl rfl⟩
  · exact ⟨⟨by dsimp only; omega, hn, window, fun hm => absurd stands (by simp [show s.job.state.mayHoldWindow = false from hm])⟩,
      h.2.of_eq rfl rfl rfl rfl⟩

theorem State.SweepKept.start {s : State} (h : s.SweepKept) (m : Nat) {p : PortId} {r : Nat} (cause : JobCause) {fresh : Bool}
    (may : s.MayStart p r fresh) : (s.start m p r cause fresh).SweepKept := by
  have hw : s.job.window = [] ∧ r ≤ s.stripeCount := by
    cases fresh with
    | true =>
      obtain ⟨hf, -, hr⟩ := may
      exact ⟨h.1.empty (by cases hs : s.job.state <;> simp [hs, JobState.fresh] at hf <;> rfl), hr⟩
    | false =>
      obtain ⟨hst, -, -, hr⟩ := may
      have := h.1.watermark
      have := h.1.cursor
      exact ⟨h.1.empty (by rcases hst with hst | hst <;> rw [hst] <;> rfl), by omega⟩
  have window : (s.begun m p r fresh).job.window = [] := by cases fresh <;> exact hw.1
  have begun : (s.begun m p r fresh).SweepKept := by
    refine ⟨.of_empty window ?_ ?_, h.2.of_eq ?_ (window.trans hw.1.symm) ?_ ?_⟩
    · cases fresh <;> exact le_rfl
    · cases fresh <;> exact hw.2
    all_goals cases fresh <;> rfl
  rw [State.start_eq]
  split
  · exact begun.complete window
  · exact begun.jobTo .active cause fun _ => window

theorem State.SweepKept.launch {s : State} (h : s.SweepKept) {c : CtxId} (hst : s.job.state = .active)
    (may : s.mayLaunch = true) (free : (s.ctx c).state = .free) : (s.launch c).SweepKept := by
  obtain ⟨cursor, sweep⟩ := h
  simp only [State.mayLaunch, Bool.and_eq_true, decide_eq_true_eq] at may
  obtain ⟨⟨⟨⟨hn, depth⟩, lost⟩, -⟩, -⟩ := may
  have le8 := sweep.depth
  have idle := State.Workers.no_window_of_free free sweep.workers
  have works (d : CtxId) (v : Nat) : ((s.launch c).ctx d).origin = .window v ↔
      (c = d ∧ v = s.job.n) ∨ (c ≠ d ∧ (s.ctx d).origin = .window v) := by
    unfold State.launch
    dsimp only
    rw [State.ctx_setCtx]
    split
    · simp [Context.taken, *, eq_comm]
    · next hcd => simp [hcd, State.ctx]
  have below {d : CtxId} {v : Nat} (hv : (s.ctx d).origin = .window v) : v < s.job.n := by
    obtain ⟨-, -, -, e, he, hes, -⟩ := sweep.worker d v hv
    exact hes ▸ cursor.window e he
  have hwindow : (s.launch c).job.window = s.job.window ++ [{ stripe := s.job.n, done := false }] := rfl
  constructor
  · refine ⟨cursor.watermark.trans (Nat.le_succ _), hn, fun e he => ?_, fun hm => ?_⟩
    · show e.stripe < s.job.n + 1
      rw [hwindow, List.mem_append, List.mem_singleton] at he
      rcases he with he | rfl
      · exact Nat.lt_succ_of_lt (cursor.window e he)
      · exact Nat.lt_succ_self _
    · have : s.job.state.mayHoldWindow = false := hm
      rw [hst] at this
      cases this
  · refine ⟨sweep.depth, ?_, ?_, fun d v hv => ?_, fun d d' v hd hd' => ?_, fun e he hd => ?_, ?_, ?_⟩
    · rw [hwindow, List.length_append, List.length_singleton]; omega
    · rw [hwindow, List.pairwise_append]
      exact ⟨sweep.ascending, List.pairwise_singleton _ _, fun a ha b hb => by
        rw [List.mem_singleton.mp hb]; exact cursor.window a ha⟩
    · rcases (works d v).mp hv with ⟨hcd, hvn⟩ | ⟨hcd, hv⟩
      · subst hcd hvn
        have : (s.launch c).ctx c = Context.taken (s.nextSerial c) .sweep s.job.n 0 s.stripBlocks
            (s.memberPortsExcept s.job.target.toList) s.job.spare none (.window s.job.n) := State.ctx_setCtx_self _ _ _
        rw [this]
        exact ⟨by simp [Context.taken], rfl, rfl, { stripe := s.job.n, done := false },
          by rw [hwindow]; exact List.mem_append_right _ (List.mem_singleton.mpr rfl), rfl, rfl⟩
      · obtain ⟨h1, h2, h3, e, he, hes⟩ := sweep.worker d v hv
        have : (s.launch c).ctx d = s.ctx d := State.ctx_setCtx_ne _ hcd _
        rw [this]
        exact ⟨h1, h2, h3, e, by rw [hwindow]; exact List.mem_append_left _ he, hes⟩
    · rcases (works d v).mp hd with ⟨hcd, hvn⟩ | ⟨-, hv⟩
      · rcases (works d' v).mp hd' with ⟨hcd', -⟩ | ⟨-, hv'⟩
        · exact hcd.symm.trans hcd'
        · exact absurd (below hv') (by omega)
      · rcases (works d' v).mp hd' with ⟨-, hvn⟩ | ⟨-, hv'⟩
        · exact absurd (below hv) (by omega)
        · exact sweep.single d d' v hv hv'
    · rw [hwindow, List.mem_append, List.mem_singleton] at he
      rcases he with he | rfl
      · obtain ⟨d, hd⟩ := sweep.inFlight e he hd
        exact ⟨d, (works d _).mpr (.inr ⟨fun hcd => idle _ (hcd ▸ hd), hd⟩)⟩
      · exact ⟨c, (works c _).mpr (.inl ⟨rfl, rfl⟩)⟩
    · rw [hwindow, List.countP_append, ← sweep.reservations]; rfl
    · show s.lost.entries.length + (s.lost.reservations + 1) ≤ Config.lostBound
      omega

theorem State.SweepKept.installMap {s : State} (h : s.SweepKept) (hst : s.job.state.committable = true) :
    s.installMap.SweepKept := by
  have hw : s.job.window = [] := h.1.empty (by cases hs : s.job.state <;> simp [hs, JobState.committable] at hst <;> rfl)
  obtain ⟨job, -, target, engine, lost⟩ := s.installMap_spec
  exact ⟨.of_empty (by rw [job]) (by rw [job]) (by rw [job]; exact Nat.zero_le _),
    h.2.of_eq (by rw [engine]) (by rw [job, hw]) lost (by rw [target])⟩

theorem State.SweepKept.jobEvent {s t : State} (h : s.SweepKept) (e : s.JobEvent t) : t.SweepKept := by
  cases e with
  | quiet => exact h
  | sweepEnd c => exact h.sweepEnd c
  | secondFault => exact h.secondFault
  | spareLoss p =>
    have back := s.withHandedBack_keepsJob
    have handed : s.withHandedBack.SweepKept := ⟨h.1.keepsJob back, h.2.keepsJob back⟩
    have engine : s.withHandedBack.engine = s.engine := by
      unfold State.withHandedBack
      rw [State.foldl_setEntry (InFlight.toRouting_tag _) (InFlight.toRouting_toRouting _)]
    have ends := handed.jobEnds (cs := s.spareLossCtxs) (fun c hc => by
      have : c ∈ s.sweepCtxs := by simpa [State.sweepCtxs, State.ctx_congr (congrArg Engine.ctxs engine)] using hc
      simp [State.spareLossCtxs, mem_allCtxs, this]) .spareLost
    rw [State.spareLoss_state]
    exact ends.armIfDue (.inl (by rw [(State.jobEnds_spec _ _).1]))
  | abandon => exact h.jobEnds (fun _ hc => hc) .command
  | disarm cause hst => exact h.jobIdle cause (h.1.empty (by rw [hst]; rfl))
  | arm hst => exact h.armIfDue hst
  | skip hst hn => exact h.skipCursor hst hn
  | complete _ _ hw => exact h.complete hw
  | launch c hst may free => exact h.launch hst may free
  | start m p r cause fresh may => exact h.start m cause may
  | stop _ hw => exact h.jobTo _ _ fun _ => hw
  | stopping => exact h.jobTo _ _ (by simp [JobState.mayHoldWindow])
  | resume => exact h.jobTo _ _ (by simp [JobState.mayHoldWindow])
  | install hst => exact h.installMap hst
  | reset kind frames =>
    refine ⟨.of_empty rfl le_rfl (Nat.zero_le _), .of_empty rfl (fun c u => ?_) rfl (Nat.zero_le _)
      (show (4 : Nat) ≤ 8 by decide)⟩
    have : ((s.resetAs kind frames).ctx c) = .blank 0 := by
      simp [State.resetAs, State.ctx_eq, State.reset, Engine.afterReset]
    rw [this]
    exact Context.blank_no_window _ _

end Sys2Proof.Machine

open Sys2Proof Sys2Proof.Machine

/-- Settles O57: the events of the job keep both invariants together, and nothing else touches the sweep. -/
theorem cursorKept : Obligations.CursorKept := fun _ _ hs h =>
  (Kept.of_jobEvents (P := State.SweepKept) (fun _ _ keeps h => ⟨h.1.keepsJob keeps, h.2.keepsJob keeps⟩)
    (fun _ _ e h => h.jobEvent e)).step hs h

end

section
/-! SUPPORT. The step and the queue of commands; request frames as bytes and back (R173, R174, R177). -/
namespace Sys2Proof

/-! ## Numbers as bytes, least significant first (R173) -/

/-- The number that a list of bytes spells, byte 0 first. -/
def bytesValue (bs : List Byte) : Nat := bs.foldr (fun b n => b.toNat + 256 * n) 0

@[simp] theorem bytesValue_nil : bytesValue [] = 0 := rfl

@[simp] theorem bytesValue_cons (b : Byte) (bs : List Byte) : bytesValue (b :: bs) = b.toNat + 256 * bytesValue bs := rfl

theorem sectorOfBytes_eq (bs : List Byte) : sectorOfBytes bs = BitVec.ofNat 4096 (bytesValue bs) := rfl

theorem bytesValue_lt (bs : List Byte) : bytesValue bs < 256 ^ bs.length := by
  induction bs with
  | nil => simp
  | cons b bs ih =>
    have hb : b.toNat < 256 := b.isLt
    rw [bytesValue_cons, List.length_cons, Nat.pow_succ]
    omega

/-- Each byte stands at its place in the number. -/
theorem bytesValue_byte (bs : List Byte) (j : Nat) : bytesValue bs / 256 ^ j % 256 = (bs.getD j 0).toNat := by
  induction bs generalizing j with
  | nil => simp
  | cons b bs ih =>
    have hb : b.toNat < 256 := b.isLt
    cases j with
    | zero => simp only [bytesValue_cons, Nat.pow_zero, Nat.div_one, List.getD_cons_zero]; omega
    | succ j =>
      have : (b.toNat + 256 * bytesValue bs) / 256 = bytesValue bs := by omega
      rw [bytesValue_cons, Nat.pow_succ', ← Nat.div_div_eq_div_mul, this, ih, List.getD_cons_succ]

/-- The bytes of a sector from byte k on spell what stands above them. -/
theorem bytesValue_sector (x : Sector) (n k : Nat) :
    bytesValue ((List.range' k n).map (fun j => (x >>> (8 * j)).setWidth 8)) = x.toNat / 256 ^ k % 256 ^ n := by
  induction n generalizing k with
  | zero => simp [Nat.mod_one]
  | succ n ih =>
    have byte : ((x >>> (8 * k)).setWidth 8).toNat = x.toNat / 256 ^ k % 256 := by
      rw [BitVec.toNat_setWidth, BitVec.toNat_ushiftRight, Nat.shiftRight_eq_div_pow, Nat.pow_mul]
    have next : x.toNat / 256 ^ (k + 1) = x.toNat / 256 ^ k / 256 := by
      rw [Nat.pow_succ, Nat.div_div_eq_div_mul]
    rw [List.range'_succ, List.map_cons, bytesValue_cons, ih, byte, next, Nat.pow_succ']
    exact (Nat.mod_mul).symm

/-- A word of n bytes is a number of n bytes. -/
theorem toNat_lt_of_bytes {w n : Nat} (h : w = 8 * n) (x : BitVec w) : x.toNat < 256 ^ n := by
  subst h
  exact (Nat.pow_mul 2 8 n) ▸ x.isLt

/-- The word that n bytes spell has their value. -/
theorem toNat_ofNat_bytesValue {w : Nat} {bs : List Byte} (h : w = 8 * bs.length) :
    (BitVec.ofNat w (bytesValue bs)).toNat = bytesValue bs := by
  subst h
  rw [BitVec.toNat_ofNat, Nat.mod_eq_of_lt]
  exact (Nat.pow_mul 2 8 bs.length) ▸ bytesValue_lt bs

theorem length_bytesOfSector (x : Sector) : (bytesOfSector x).length = 512 := by
  simp [bytesOfSector]

theorem sectorOfBytes_bytesOfSector (x : Sector) : sectorOfBytes (bytesOfSector x) = x := by
  apply BitVec.eq_of_toNat_eq
  rw [sectorOfBytes_eq, toNat_ofNat_bytesValue (by rw [length_bytesOfSector]), bytesOfSector, List.range_eq_range',
    bytesValue_sector, Nat.pow_zero, Nat.div_one]
  exact Nat.mod_eq_of_lt (toNat_lt_of_bytes (n := 512) rfl x)

theorem bytesOfSector_sectorOfBytes {bs : List Byte} (h : bs.length = 512) : bytesOfSector (sectorOfBytes bs) = bs := by
  have value : (sectorOfBytes bs).toNat = bytesValue bs := toNat_ofNat_bytesValue (by rw [h])
  apply List.ext_getElem (by rw [length_bytesOfSector, h])
  intro j _ hj
  apply BitVec.eq_of_toNat_eq
  simp only [bytesOfSector, List.getElem_map, List.getElem_range, BitVec.toNat_setWidth, BitVec.toNat_ushiftRight,
    Nat.shiftRight_eq_div_pow, value, Nat.pow_mul]
  rw [show (2 : Nat) ^ 8 = 256 from rfl, bytesValue_byte, List.getD_eq_getElem _ _ hj]

/-! ## The payload of a WRITE (R174) -/

theorem length_flatMap_bytesOfSector (data : List Sector) : (data.flatMap bytesOfSector).length = 512 * data.length := by
  induction data with
  | nil => rfl
  | cons x data ih => rw [List.flatMap_cons, List.length_append, ih, length_bytesOfSector, List.length_cons]; omega

/-- The first sector of a payload, and the payload of the rest. -/
theorem sectorsOfBytes_append {front : List Byte} (hf : front.length = 512) (bs : List Byte) :
    sectorsOfBytes (front ++ bs) = sectorOfBytes front :: sectorsOfBytes bs := by
  have count : (front ++ bs).length / 512 = bs.length / 512 + 1 := by rw [List.length_append, hf]; omega
  rw [sectorsOfBytes, count, List.range_succ_eq_map, List.map_cons, List.map_map, sectorsOfBytes]
  congr 1
  · rw [Nat.mul_zero, List.drop_zero, ← hf, List.take_left']
    rfl
  · apply List.map_congr_left
    intro k _
    have : 512 * (k + 1) = front.length + 512 * k := by omega
    show sectorOfBytes (((front ++ bs).drop (512 * (k + 1))).take 512) = _
    rw [this, ← List.drop_drop, List.drop_left]

theorem sectorsOfBytes_nil : sectorsOfBytes [] = [] := rfl

theorem length_sectorsOfBytes (bs : List Byte) : (sectorsOfBytes bs).length = bs.length / 512 := by
  simp [sectorsOfBytes]

theorem sectorsOfBytes_flatMap (data : List Sector) : sectorsOfBytes (data.flatMap bytesOfSector) = data := by
  induction data with
  | nil => rfl
  | cons x data ih =>
    rw [List.flatMap_cons, sectorsOfBytes_append (length_bytesOfSector x), ih, sectorOfBytes_bytesOfSector]

theorem flatMap_sectorsOfBytes (n : Nat) {bs : List Byte} (h : bs.length = 512 * n) :
    (sectorsOfBytes bs).flatMap bytesOfSector = bs := by
  induction n generalizing bs with
  | zero => rw [List.eq_nil_of_length_eq_zero h]; rfl
  | succ n ih =>
    have front : (bs.take 512).length = 512 := by rw [List.length_take]; omega
    have rest : (bs.drop 512).length = 512 * n := by rw [List.length_drop]; omega
    conv_lhs => rw [← List.take_append_drop 512 bs]
    rw [sectorsOfBytes_append front, List.flatMap_cons, ih rest, bytesOfSector_sectorOfBytes front,
      List.take_append_drop]

/-! ## The header (R174) -/

theorem length_headerBytes (op : BitVec 4) (h : Header) : (headerBytes op h).length = 7 := rfl

theorem operationOf_headerBytes (op : BitVec 4) (h : Header) (rest : List Byte) :
    operationOf (headerBytes op h ++ rest) = op := by
  show ((op ++ h.slot) >>> 4).setWidth 4 = op
  generalize h.slot = slot
  revert op slot
  decide

theorem headerOf_headerBytes (op : BitVec 4) (h : Header) (rest : List Byte) :
    headerOf (headerBytes op h ++ rest) = h := by
  obtain ⟨tag, slot, count, addr⟩ := h
  have slot_eq : (op ++ slot).setWidth 4 = slot := by
    revert op slot
    decide
  have addr_eq : BitVec.ofNat 32 ((addr.setWidth 8).toNat + 256 * ((addr >>> 8).setWidth 8).toNat
      + 65536 * ((addr >>> 16).setWidth 8).toNat + 16777216 * ((addr >>> 24).setWidth 8).toNat) = addr := by
    apply BitVec.eq_of_toNat_eq
    have := addr.isLt
    simp only [BitVec.toNat_ofNat, BitVec.toNat_setWidth, BitVec.toNat_ushiftRight, Nat.shiftRight_eq_div_pow]
    omega
  show Header.mk tag ((op ++ slot).setWidth 4) count _ = _
  rw [slot_eq]
  exact congrArg (Header.mk tag slot count) addr_eq

/-- No bit of a header is dropped (R174). -/
theorem headerBytes_headerOf {bs : List Byte} (h : 7 ≤ bs.length) :
    headerBytes (operationOf bs) (headerOf bs) = bs.take 7 := by
  obtain ⟨b0, b1, b2, b3, b4, b5, b6, rest, rfl⟩ :
      ∃ b0 b1 b2 b3 b4 b5 b6 rest, bs = b0 :: b1 :: b2 :: b3 :: b4 :: b5 :: b6 :: rest := by
    match bs, h with
    | b0 :: b1 :: b2 :: b3 :: b4 :: b5 :: b6 :: rest, _ => exact ⟨b0, b1, b2, b3, b4, b5, b6, rest, rfl⟩
  have code : ((b1 >>> 4).setWidth 4 ++ b1.setWidth 4 : Byte) = b1 := by
    clear h
    revert b1
    decide
  have h3 := b3.isLt
  have h4 := b4.isLt
  have h5 := b5.isLt
  have h6 := b6.isLt
  show [b0, (b1 >>> 4).setWidth 4 ++ b1.setWidth 4, b2, _, _, _, _] = [b0, b1, b2, b3, b4, b5, b6]
  rw [code]
  simp only [List.cons.injEq, true_and, and_true, headerOf, frameByte, List.getD_cons_succ, List.getD_cons_zero,
    ← BitVec.toNat_inj, BitVec.toNat_ofNat, BitVec.toNat_setWidth, BitVec.toNat_ushiftRight,
    Nat.shiftRight_eq_div_pow]
  omega

/-! ## Frames (R174, R177) -/

/-- A frame of at least two bytes is read by its operation code (R174). -/
theorem decodeFrame_of_two {bs : List Byte} (h : 2 ≤ bs.length) : decodeFrame bs =
    match (operationOf bs).toNat with
    | 1 => .read (headerOf bs) bs.length
    | 2 => .write (headerOf bs) bs.length (if bs.length = writeLength (headerOf bs) then sectorsOfBytes (bs.drop 7) else [])
    | 3 => .flush (headerOf bs) bs.length
    | 4 => commandOf (headerOf bs) (bs.drop 7)
    | _ => .unknownOperationFrame (headerOf bs).tag (operationOf bs) bs.length := by
  match bs, h with
  | _ :: _ :: _, _ => rfl

/-- What the frame of a header and a payload is read as. -/
theorem decodeFrame_headerBytes (op : BitVec 4) (h : Header) (rest : List Byte) :
    decodeFrame (headerBytes op h ++ rest) =
      match op.toNat with
      | 1 => .read h (7 + rest.length)
      | 2 => .write h (7 + rest.length) (if 7 + rest.length = writeLength h then sectorsOfBytes rest else [])
      | 3 => .flush h (7 + rest.length)
      | 4 => commandOf h rest
      | _ => .unknownOperationFrame h.tag op (7 + rest.length) := by
  have length : (headerBytes op h ++ rest).length = 7 + rest.length := by rw [List.length_append, length_headerBytes]
  rw [decodeFrame_of_two (by omega), operationOf_headerBytes, headerOf_headerBytes, length]
  rfl

/-- A WRITE frame with eight sectors a block (R174). -/
theorem decodeFrame_writeFrame (h : Header) {data : List Sector} (count : data.length = 8 * h.count.toNat) :
    decodeFrame (headerBytes 2 h ++ data.flatMap bytesOfSector) = .write h (writeLength h) data := by
  have length : 7 + (data.flatMap bytesOfSector).length = writeLength h := by
    rw [length_flatMap_bytesOfSector, count, writeLength]; omega
  rw [decodeFrame_headerBytes]
  show Instr.write h _ (if _ then _ else _) = _
  rw [if_pos length, length, sectorsOfBytes_flatMap]

theorem decodeFrame_manageFrame (h : Header) (record : List Byte) :
    decodeFrame (manageFrame h record) = commandOf h record :=
  decodeFrame_headerBytes 4 h record

/-- A code that is none of the twenty is an unknown command (R177). -/
theorem commandOf_unknown {code : Byte} (h : knownCommand code = false) (x : Header) (ps : List Byte) :
    commandOf x (code :: ps) = .unknownCommand x (code :: ps) := by
  simp only [knownCommand, Bool.and_eq_false_iff, decide_eq_false_iff_not] at h
  simp only [commandOf]
  split
  case h_21 => rfl
  all_goals omega

/-- The frame of a command record (R174, R177). -/
theorem encodeFrame_commandOf (h : Header) (record : List Byte) :
    encodeFrame (commandOf h record) = some (manageFrame h record) := by
  cases record with
  | nil => rfl
  | cons code ps =>
    simp only [commandOf]
    split
    case h_21 => rfl
    all_goals next hc => exact congrArg (fun b => some (manageFrame h (b :: ps))) (BitVec.eq_of_toNat_eq hc.symm)

/-- The commands of a command record are frames of the length they call for, and well formed (R177). -/
theorem commandOf_frame (h : Header) (record : List Byte) :
    (commandOf h record).wellFormed = true ∧ (Machine.frameOf (commandOf h record)).isSome = true := by
  cases record with
  | nil => exact ⟨rfl, rfl⟩
  | cons code ps =>
    cases known : knownCommand code with
    | false => rw [commandOf_unknown known]; exact ⟨by simp [Instr.wellFormed, known], rfl⟩
    | true =>
      simp only [knownCommand, Bool.and_eq_true, decide_eq_true_eq] at known
      simp only [commandOf]
      split
      case h_21 => simp only [imp_false] at *; omega
      all_goals exact ⟨rfl, rfl⟩

/-- The operation codes are none but those of the four operations (R174). -/
theorem knownOperation_cases {op : BitVec 4} (h : knownOperation op = true) : op = 1 ∨ op = 2 ∨ op = 3 ∨ op = 4 := by
  revert op
  decide

end Sys2Proof

open Sys2Proof Sys2Proof.Machine

/-- Settles O1, by the definition of the step. -/
theorem stepRunsFrontCommand : Obligations.StepRunsFrontCommand := fun _ _ _ => rfl

/-- Settles O6, by reading the six frames. -/
theorem frameExamples : Obligations.FrameExamples := by
  refine ⟨?_, rfl, rfl, rfl, rfl, rfl⟩
  have zeros : List.replicate 8192 0 = (List.replicate 16 (0 : Sector)).flatMap bytesOfSector := by
    have zero : bytesOfSector 0 = List.replicate 512 0 := by
      refine List.eq_replicate_iff.mpr ⟨length_bytesOfSector 0, fun b hb => ?_⟩
      obtain ⟨j, -, rfl⟩ := List.mem_map.mp hb
      show ((0#4096 : Sector) >>> (8 * j)).setWidth 8 = 0#8
      rw [BitVec.zero_ushiftRight, BitVec.setWidth_zero]
    rw [List.flatMap, List.map_replicate, zero, List.flatten_replicate_replicate]
  rw [zeros]
  exact decodeFrame_writeFrame { tag := 0x15, slot := 3, count := 2, addr := 0x3EA8 } rfl

/-- Settles O3, by the frame each command is written as (R174). -/
theorem decodeOfEncode : Obligations.DecodeOfEncode := by
  intro i bs wf fits enc
  cases i
  case read h len =>
    obtain rfl : len = 7 := by simpa [Instr.lengthFits] using fits
    cases enc
    exact decodeFrame_headerBytes 1 h []
  case flush h len =>
    obtain rfl : len = 7 := by simpa [Instr.lengthFits] using fits
    cases enc
    exact decodeFrame_headerBytes 3 h []
  case write h len data =>
    obtain rfl : len = writeLength h := by simpa [Instr.lengthFits] using fits
    simp only [Instr.wellFormed, bne_self_eq_false, Bool.false_or, Bool.and_eq_true, beq_iff_eq] at wf
    cases enc
    exact decodeFrame_writeFrame h wf.2
  case frameTooShort first =>
    cases enc
    cases first <;> rfl
  case unknownCommand h record =>
    cases enc
    rw [decodeFrame_manageFrame]
    cases record with
    | nil => rfl
    | cons code ps => exact commandOf_unknown (by simpa [Instr.wellFormed] using wf) h ps
  all_goals cases enc
  all_goals exact decodeFrame_manageFrame _ _

/-- Settles O4, by the operation code: the header loses no bit, and neither do a record or the sectors of a WRITE. -/
theorem encodeOfDecode : Obligations.EncodeOfDecode := by
  intro bs long known fits
  have header := headerBytes_headerOf long
  have whole : bs.take 7 ++ bs.drop 7 = bs := List.take_append_drop 7 bs
  rw [decodeFrame_of_two (by omega)] at fits ⊢
  rcases knownOperation_cases known with op | op | op | op <;> rw [op] at header fits ⊢
  · have short : bs.length = 7 := beq_iff_eq.mp fits
    exact congrArg some (header.trans (List.take_of_length_le short.le))
  · have length : bs.length = writeLength (headerOf bs) := beq_iff_eq.mp fits
    show some (headerBytes 2 _ ++ List.flatMap bytesOfSector (if _ then _ else _)) = _
    rw [if_pos length, header, flatMap_sectorsOfBytes (8 * (headerOf bs).count.toNat), whole]
    rw [List.length_drop, length, writeLength]
    omega
  · have short : bs.length = 7 := beq_iff_eq.mp fits
    exact congrArg some (header.trans (List.take_of_length_le short.le))
  · show encodeFrame (commandOf _ _) = _
    rw [encodeFrame_commandOf, manageFrame, header, whole]

/-- Settles O5, by the length and the operation code. -/
theorem decodedFramesWellFormed : Obligations.DecodedFramesWellFormed := by
  intro bs
  by_cases long : 2 ≤ bs.length
  · rw [decodeFrame_of_two long]
    refine and_assoc.mp ⟨?_, fun short => absurd long (by omega), fun _ unknown => ?_⟩
    · split
      · exact ⟨decide_eq_true long, rfl⟩
      · refine ⟨?_, rfl⟩
        simp only [Instr.wellFormed, Bool.and_eq_true, decide_eq_true_eq, Bool.or_eq_true, bne_iff_ne, beq_iff_eq]
        refine ⟨long, or_iff_not_imp_left.mpr fun fits => ?_⟩
        rw [not_not] at fits
        rw [if_pos fits, length_sectorsOfBytes, List.length_drop, fits, writeLength]
        omega
      · exact ⟨decide_eq_true long, rfl⟩
      · exact commandOf_frame _ _
      · next h1 h2 h3 h4 =>
        refine ⟨?_, rfl⟩
        have unknown : knownOperation (operationOf bs) = false := by
          simp only [knownOperation, Bool.and_eq_false_iff, decide_eq_false_iff_not, imp_false] at *
          omega
        simp only [Instr.wellFormed, unknown, Bool.not_false, Bool.and_true, decide_eq_true_eq]
        exact long
    · simp only [knownOperation, Bool.and_eq_false_iff, decide_eq_false_iff_not] at unknown
      split
      case h_5 => rfl
      all_goals omega
  · have short : decodeFrame bs = .frameTooShort bs.head? := by
      match bs with
      | [] => rfl
      | [_] => rfl
      | _ :: _ :: _ => exact absurd (Nat.le_add_left 2 _) long
    rw [short]
    exact ⟨rfl, rfl, fun _ => rfl, fun h => absurd h long⟩

end

section
/-! SUPPORT. What no internal effect touches but the taking of a frame: the queue of commands, the upstream link and the
frames it holds. -/
namespace Sys2Proof.Machine

/-- What stands outside the blocks of the bridge: the commands not yet taken, the upstream link, the frames it holds. -/
def State.outside (s : State) : List Instr × Bool × List Frame := (s.pending, s.channel.up, s.channel.linkFrames)

theorem State.outside_of_eq {s t : State} (pending : t.pending = s.pending) (up : t.channel.up = s.channel.up)
    (frames : t.channel.linkFrames = s.channel.linkFrames) : t.outside = s.outside := by
  rw [State.outside, pending, up, frames, State.outside]

/-- A fold of steps that leave the outside leaves it. -/
theorem State.outside_foldl {α : Type} {f : State → α → State} (hf : ∀ s a, (f s a).outside = s.outside) (l : List α)
    (s : State) : (l.foldl f s).outside = s.outside := by
  induction l generalizing s with
  | nil => rfl
  | cons a l ih => rw [List.foldl_cons, ih, hf]

variable (s : State)

/-! ## Updates and queues -/

@[simp] theorem State.setPort_outside (p : PortId) (x : Port) : (s.setPort p x).outside = s.outside := rfl
@[simp] theorem State.setCtx_outside (c : CtxId) (x : Context) : (s.setCtx c x).outside = s.outside := rfl
@[simp] theorem State.mapPorts_outside (f : Port → Port) : (s.mapPorts f).outside = s.outside := rfl
@[simp] theorem State.setEntry_outside (tag : Nat) (f : InFlight → InFlight) :
    (s.setEntry tag f).outside = s.outside := rfl
@[simp] theorem State.addEntry_outside (e : InFlight) : (s.addEntry e).outside = s.outside := rfl
@[simp] theorem State.countForeground_outside : s.countForeground.outside = s.outside := rfl
@[simp] theorem State.advanceTo_outside (t : Nat) : (s.advanceTo t).outside = s.outside := rfl
@[simp] theorem State.periodEnd_outside (t : Nat) : (s.periodEnd t).outside = s.outside := rfl
@[simp] theorem State.latch_outside (st : Status) : (s.latch st).outside = s.outside := rfl
@[simp] theorem State.dropWindow_outside : s.dropWindow.outside = s.outside := rfl
@[simp] theorem State.releaseReservation_outside : s.releaseReservation.outside = s.outside := rfl
@[simp] theorem State.setRole_outside (p : PortId) (r : Role) : (s.setRole p r).outside = s.outside := rfl
@[simp] theorem State.launch_outside (c : CtxId) : (s.launch c).outside = s.outside := rfl

@[simp] theorem State.transmit_outside : s.transmit.outside = s.outside :=
  State.outside_of_eq s.transmit_pending s.transmit_channel_up s.transmit_channel_linkFrames

@[simp] theorem State.queueResponse_outside (r : QueuedResponse) : (s.queueResponse r).outside = s.outside := by
  rw [State.queueResponse, State.transmit_outside]; rfl

@[simp] theorem State.answer_outside (tag : Nat) (r : Response) : (s.answer tag r).outside = s.outside := by
  rcases s.answer_cases tag r with ⟨-, e⟩ | ⟨_, -, -, e⟩ <;> rw [e]
  rw [State.queueResponse_outside, State.setEntry_outside]

@[simp] theorem State.refuseFrame_outside (tag : Byte) (st : Status) : (s.refuseFrame tag st).outside = s.outside :=
  s.queueResponse_outside _

@[simp] theorem State.notify_outside (n : Notice) : (s.notify n).outside = s.outside := by
  rcases s.notify_cases n with ⟨-, e⟩ | ⟨-, e⟩ <;> rw [e]
  rw [State.transmit_outside]; rfl

@[simp] theorem State.jobTo_outside (st : JobState) (cause : JobCause) : (s.jobTo st cause).outside = s.outside := by
  rcases s.jobTo_cases st cause with ⟨-, e⟩ | ⟨-, e⟩ <;> rw [e]
  · rfl
  · rw [State.notify_outside]; rfl

@[simp] theorem State.jobIdle_outside (cause : JobCause) : (s.jobIdle cause).outside = s.outside := by
  rw [State.jobIdle, State.jobTo_outside]; rfl

@[simp] theorem State.answerStop_outside (st : Status) : (s.answerStop st).outside = s.outside := by
  rcases s.answerStop_cases st with ⟨-, e⟩ | ⟨_, -, ⟨-, e⟩ | ⟨-, e⟩⟩ <;> rw [e]
  · rw [State.answer_outside]; rfl
  · rw [State.answer_outside]; rfl

/-! ## Ports and locks -/

@[simp] theorem State.issue_outside (p : PortId) : (s.issue p).outside = s.outside := by
  obtain ⟨_, _, e, -⟩ := s.issue_spec p
  rw [e, State.setPort_outside]

@[simp] theorem State.enlist_outside (p : PortId) (op : DriveOp) : (s.enlist p op).outside = s.outside := by
  obtain ⟨_, _, e, -⟩ := s.enlist_spec p op
  rw [e, State.setPort_outside]

@[simp] theorem State.countContext_outside (c : CtxId) : (s.countContext c).outside = s.outside := by
  unfold State.countContext; split <;> simp

@[simp] theorem State.offerForeground_outside (p : PortId) (op : DriveOp) :
    (s.offerForeground p op).2.outside = s.outside := by
  rcases s.offerForeground_cases p op with ⟨-, e⟩ | ⟨-, -, e⟩ | ⟨-, -, e⟩ <;> simp [e]

@[simp] theorem State.offerContext_outside (c : CtxId) (p : PortId) (op : DriveOp) :
    (s.offerContext c p op).2.outside = s.outside := by
  rcases s.offerContext_cases c p op with ⟨-, e⟩ | ⟨-, -, e⟩ | ⟨-, -, -, e⟩ | ⟨-, -, -, e⟩ <;> simp [e]

@[simp] theorem State.afterDeparture_outside (p : PortId) : (s.afterDeparture p).outside = s.outside := by
  unfold State.afterDeparture
  dsimp only
  repeat' split
  all_goals simp

@[simp] theorem State.grant_outside (c : CtxId) : (s.grant c).2.outside = s.outside := rfl

@[simp] theorem State.drainReport_outside (addr : Nat) : (s.drainReport addr).2.outside = s.outside := by
  rcases s.drainReport_cases addr with ⟨-, e⟩ | ⟨_, -, -, ⟨-, e⟩ | ⟨-, e⟩⟩ <;> rw [e] <;> rfl

@[simp] theorem State.departed_outside (p : PortId) (op : DriveOp) (out : Outcome) (raise : Bool) :
    (s.departed p op out raise).2.outside = s.outside := by
  rw [State.departed_eq]; dsimp only; split <;> simp

@[simp] theorem State.driveCompletion_outside (p : PortId) (id : Nat) (r : Report) :
    (s.driveCompletion p id r).2.outside = s.outside := by
  unfold State.driveCompletion; split <;> simp

@[simp] theorem State.driveTimeout_outside (p : PortId) (id : Nat) : (s.driveTimeout p id).2.outside = s.outside := by
  unfold State.driveTimeout; split <;> simp

@[simp] theorem State.emptyList_outside (p : PortId) : (s.emptyList p).2.outside = s.outside := by
  unfold State.emptyList; split <;> simp

@[simp] theorem State.emptyWaiting_outside (p : PortId) : (s.emptyWaiting p).2.outside = s.outside := by
  unfold State.emptyWaiting; split <;> simp

@[simp] theorem State.emptyDeferred_outside (p : PortId) : (s.emptyDeferred p).2.outside = s.outside := by
  unfold State.emptyDeferred; split <;> simp

@[simp] theorem State.failPort_outside (p : PortId) (reason : FailReason) :
    (s.failPort p reason).2.outside = s.outside := by
  unfold State.failPort; dsimp only; split <;> simp

@[simp] theorem State.countError_outside (p : PortId) : (s.countError p).2.outside = s.outside := by
  unfold State.countError; dsimp only; split <;> simp

@[simp] theorem State.linkDown_outside (p : PortId) : (s.linkDown p).2.outside = s.outside := by
  unfold State.linkDown; dsimp only; repeat' split
  all_goals simp

@[simp] theorem State.linkUp_outside (p : PortId) : (s.linkUp p).outside = s.outside := rfl

/-! ## Contexts -/

@[simp] theorem State.hold_outside (tag stripe : Nat) : (s.hold tag stripe).outside = s.outside := by
  rcases s.hold_cases tag stripe with ⟨_, -, -, e⟩ | e <;> rw [e]
  · rfl
  · rw [State.answer_outside]

@[simp] theorem State.freeCtxs_outside (cs : List CtxId) : (s.freeCtxs cs).outside = s.outside := by
  unfold State.freeCtxs
  dsimp only
  rw [State.outside_foldl (fun t tag => t.setEntry_outside tag _), State.outside_foldl (fun t c => t.setCtx_outside c _)]
  rfl

@[simp] theorem State.endEarly_outside (c : CtxId) : (s.endEarly c).2.outside = s.outside := by
  unfold State.endEarly
  dsimp only
  rw [State.freeCtxs_outside, State.outside_foldl (fun t tag => t.setEntry_outside tag _), State.mapPorts_outside]

@[simp] theorem State.endNormally_outside (c : CtxId) : (s.endNormally c).2.outside = s.outside := by
  unfold State.endNormally; dsimp only; rw [State.freeCtxs_outside]; rfl

@[simp] theorem State.abandon_outside (cs : List CtxId) : (s.abandon cs).outside = s.outside := by
  rw [State.abandon, State.freeCtxs_outside, State.mapPorts_outside]

@[simp] theorem State.handBack_outside (c : CtxId) : (s.handBack c).2.outside = s.outside := by
  rcases s.handBack_cases c with ⟨_, -, e⟩ | ⟨-, e⟩ <;> rw [e] <;> rfl

@[simp] theorem State.lockRequest_outside (c : CtxId) : (s.lockRequest c).2.outside = s.outside := by
  rcases s.lockRequest_cases c with ⟨-, e⟩ | ⟨-, -, e⟩ | ⟨-, -, e⟩ <;> rw [e]
  · exact s.handBack_outside c
  · rfl
  · rfl

@[simp] theorem State.askLock_outside : s.askLock.2.outside = s.outside := by
  rcases s.askLock_cases with ⟨-, e⟩ | ⟨_, -, -, e⟩ | ⟨_, -, -, -, e⟩ <;> rw [e]
  · rfl
  · rw [State.lockRequest_outside]; rfl

@[simp] theorem State.lockDue_outside : s.lockDue.2.outside = s.outside := by
  rcases s.lockDue_cases with ⟨-, e⟩ | ⟨-, -, e⟩ | ⟨-, -, e⟩ <;> rw [e]
  · rfl
  · rw [State.askLock_outside]; rfl

@[simp] theorem State.rejoin_outside (tag : Nat) : (s.rejoin tag).outside = s.outside := by
  rcases s.rejoin_cases tag with e | ⟨_, _, -, -, -, -, -, e⟩ <;> simp [e]

@[simp] theorem State.portFinal_outside (c : CtxId) (p : PortId) (lanes : List Lane) (source : Bool) :
    (s.portFinal c p lanes source).2.outside = s.outside := rfl

@[simp] theorem State.missingInput_outside (c : CtxId) (p : PortId) : (s.missingInput c p).2.outside = s.outside := rfl

@[simp] theorem offerReads_outside (c : CtxId) (ps : List PortId) (s : State) :
    (offerReads c ps s).2.outside = s.outside := by
  induction ps generalizing s with
  | nil => rfl
  | cons p ps ih =>
    unfold offerReads
    dsimp only
    repeat' split
    all_goals simp [ih]

@[simp] theorem State.startReading_outside (c : CtxId) : (s.startReading c).2.outside = s.outside := by
  rw [State.startReading, offerReads_outside, State.setCtx_outside]

@[simp] theorem State.readMissing_outside (c : CtxId) (p : PortId) : (s.readMissing c p).2.outside = s.outside := by
  unfold State.readMissing; dsimp only; repeat' split
  all_goals simp

@[simp] theorem State.readOutcome_outside (c : CtxId) (p : PortId) (out : Outcome) :
    (s.readOutcome c p out).2.outside = s.outside := by
  unfold State.readOutcome; split <;> simp

@[simp] theorem State.deliverResult_outside (c : CtxId) : (s.deliverResult c).outside = s.outside := by
  unfold State.deliverResult; dsimp only; repeat' split
  all_goals simp

@[simp] theorem State.lanesFinal_outside (c : CtxId) : (s.lanesFinal c).2.outside = s.outside := by
  unfold State.lanesFinal; dsimp only; repeat' split
  all_goals simp

@[simp] theorem State.spareGone_outside (c : CtxId) : (s.spareGone c).2.outside = s.outside := by
  unfold State.spareGone; split <;> simp

@[simp] theorem State.offerSpare_outside (c : CtxId) : (s.offerSpare c).2.outside = s.outside := by
  unfold State.offerSpare; dsimp only; repeat' split
  all_goals simp

@[simp] theorem State.spareMissing_outside (c : CtxId) (p : PortId) : (s.spareMissing c p).2.outside = s.outside := by
  unfold State.spareMissing; dsimp only; split <;> simp

/-! ## The job -/

@[simp] theorem State.fireMilestones_outside (w : Nat) : (s.fireMilestones w).outside = s.outside := by
  unfold State.fireMilestones
  dsimp only
  rw [State.outside_foldl (fun t m => t.notify_outside _)]
  rfl

@[simp] theorem State.advanceW_outside (w : Nat) : (s.advanceW w).outside = s.outside := by
  unfold State.advanceW
  dsimp only
  split
  · rw [State.fireMilestones_outside]; rfl
  · rfl

@[simp] theorem State.roleExchange_outside (t : Nat) (p : PortId) : (s.roleExchange t p).outside = s.outside := by
  unfold State.roleExchange; dsimp only; split <;> simp

theorem State.withJob_outside (j : Job) : ({ s with job := j } : State).outside = s.outside := rfl

@[simp] theorem State.complete_outside : s.complete.outside = s.outside := by
  unfold State.complete
  split
  · rw [State.answerStop_outside, State.notify_outside, State.notify_outside, State.withJob_outside,
      State.roleExchange_outside, State.fireMilestones_outside]
  · rfl

@[simp] theorem State.retire_outside (stripe : Nat) : (s.retire stripe).outside = s.outside := by
  unfold State.retire
  dsimp only
  repeat' split
  all_goals simp only [State.answerStop_outside, State.jobTo_outside, State.complete_outside, State.advanceW_outside]
  all_goals rfl

@[simp] theorem State.skipCursor_outside : s.skipCursor.outside = s.outside := by
  unfold State.skipCursor
  dsimp only
  split
  · rw [State.advanceW_outside]; rfl
  · rfl

@[simp] theorem State.examine_outside : s.examine.2.outside = s.outside := by
  rcases s.examine_cases with e | ⟨-, -, -, e⟩ | ⟨-, -, -, e⟩ | ⟨_, -, -, -, -, e⟩ <;> simp [e]

@[simp] theorem State.start_outside (m : Nat) (p : PortId) (r : Nat) (cause : JobCause) (fresh : Bool) :
    (s.start m p r cause fresh).outside = s.outside := by
  unfold State.start
  dsimp only
  repeat' split
  all_goals simp only [State.complete_outside, State.jobTo_outside, State.setPort_outside]
  all_goals rfl

@[simp] theorem State.armIfDue_outside : s.armIfDue.outside = s.outside := by
  rcases s.armIfDue_cases with e | ⟨_, -, -, -, e⟩ <;> rw [e]
  rw [State.jobTo_outside]; rfl

@[simp] theorem State.arm_outside : s.arm.2.outside = s.outside := s.armIfDue_outside

@[simp] theorem State.settleExpiry_outside : s.settleExpiry.2.outside = s.outside := by
  unfold State.settleExpiry; repeat' split
  all_goals simp

@[simp] theorem State.secondFault_outside : s.secondFault.2.outside = s.outside := by
  unfold State.secondFault
  dsimp only
  rw [State.answerStop_outside, State.jobTo_outside]
  exact State.abandon_outside s _

@[simp] theorem State.unbind_outside : s.unbind.outside = s.outside := by
  unfold State.unbind; split <;> simp

@[simp] theorem State.jobEnds_outside (cause : JobCause) : (s.jobEnds cause).outside = s.outside := by
  unfold State.jobEnds
  dsimp only
  rw [State.answerStop_outside, State.jobIdle_outside]
  exact (State.unbind_outside _).trans s.dropWindow_outside

@[simp] theorem State.spareLoss_outside : s.spareLoss.2.outside = s.outside := by
  unfold State.spareLoss
  dsimp only
  rw [State.arm_outside, State.jobEnds_outside, State.abandon_outside,
    State.outside_foldl (fun t tag => t.setEntry_outside tag _)]

@[simp] theorem State.abandonJob_outside : s.abandonJob.2.outside = s.outside := by
  unfold State.abandonJob; dsimp only; rw [State.jobEnds_outside, State.abandon_outside]

@[simp] theorem State.sequencerFailure_outside (p : PortId) : (s.sequencerFailure p).2.outside = s.outside := by
  unfold State.sequencerFailure; repeat' split
  all_goals simp

@[simp] theorem State.appendLost_outside (e : LostEntry) : (s.appendLost e).outside = s.outside := by
  unfold State.appendLost
  dsimp only
  repeat' split
  all_goals simp only [State.jobTo_outside, State.notify_outside]
  all_goals rfl

/-! ## Context ends -/

@[simp] theorem State.sweepEnd_outside (c : CtxId) : (s.sweepEnd c).2.outside = s.outside := by
  unfold State.sweepEnd
  dsimp only
  split
  · dsimp only
    rw [State.retire_outside, State.setCtx_outside]
    split
    · rw [State.appendLost_outside]; rfl
    · rfl
  · rfl
  · rfl

@[simp] theorem State.sweepFree_outside (c : CtxId) (serial : Nat) : (s.sweepFree c serial).2.outside = s.outside := by
  unfold State.sweepFree; dsimp only; split <;> simp

@[simp] theorem State.insertAhead_outside (c : CtxId) : (s.insertAhead c).outside = s.outside := by
  unfold State.insertAhead; dsimp only; split <;> rfl

@[simp] theorem State.writeGood_outside (c : CtxId) : (s.writeGood c).2.outside = s.outside := by
  unfold State.writeGood; dsimp only; repeat' split
  all_goals simp

@[simp] theorem State.ctxOutcome_outside (c : CtxId) (serial : Nat) (p : PortId) (out : Outcome) :
    (s.ctxOutcome c serial p out).2.outside = s.outside := by
  unfold State.ctxOutcome; dsimp only; repeat' split
  all_goals simp

/-! ## The router -/

@[simp] theorem State.forwardTo_outside (e : InFlight) (p : PortId) : (s.forwardTo e p).2.outside = s.outside := by
  unfold State.forwardTo; dsimp only; split <;> simp

@[simp] theorem State.reconstruct_outside (e : InFlight) (place : Place) (kind : CtxKind) (mask : List PortId)
    (target : Option PortId) (tm : Option Nat) (offered : Bool) :
    (s.reconstruct e place kind mask target tm offered).2.outside = s.outside := by
  unfold State.reconstruct
  dsimp only
  repeat' split
  · rfl
  · rw [State.lockRequest_outside]; rfl
  · rfl

@[simp] theorem State.decideRoute_outside (e : InFlight) (place : Place) (offered : Bool) :
    (s.decideRoute e place offered).2.outside = s.outside := by
  unfold State.decideRoute; repeat' split
  all_goals simp

@[simp] theorem State.route_outside (tag : Nat) (offered : Bool) : (s.route tag offered).2.outside = s.outside := by
  unfold State.route; repeat' split
  all_goals simp

@[simp] theorem State.arbitrate_outside : s.arbitrate.2.outside = s.outside := by
  unfold State.arbitrate; repeat' split
  all_goals rfl

@[simp] theorem State.routerOutcome_outside (tag : Nat) (p : PortId) (op : DriveOp) (out : Outcome) :
    (s.routerOutcome tag p op out).2.outside = s.outside := by
  unfold State.routerOutcome; repeat' split
  all_goals simp

@[simp] theorem State.deliver_outside (p : PortId) (op : DriveOp) (out : Outcome) :
    (s.deliver p op out).2.outside = s.outside := by
  unfold State.deliver; split <;> simp

/-! ## The management target -/

@[simp] theorem State.mgmtAnswer_outside (tag : Nat) (r : Response) : (s.mgmtAnswer tag r).2.outside = s.outside :=
  s.answer_outside tag r

@[simp] theorem State.mgmtGood_outside (tag : Nat) : (s.mgmtGood tag).2.outside = s.outside := s.mgmtAnswer_outside _ _

@[simp] theorem State.mgmtResult_outside (tag : Nat) (bytes : List Byte) :
    (s.mgmtResult tag bytes).2.outside = s.outside := s.mgmtAnswer_outside _ _

@[simp] theorem State.mgmtRefuse_outside (tag : Nat) (st : Status) : (s.mgmtRefuse tag st).2.outside = s.outside :=
  (s.latch st).mgmtAnswer_outside _ _

@[simp] theorem State.nextCommand_outside : s.nextCommand.2.outside = s.outside := by
  unfold State.nextCommand; split <;> rfl

@[simp] theorem State.placeCommand_outside (tag : Nat) (record : List Byte) :
    (s.placeCommand tag record).2.outside = s.outside := by
  unfold State.placeCommand
  repeat' split
  · rfl
  · rfl
  · rw [State.answer_outside, State.latch_outside]

@[simp] theorem State.installMap_outside : s.installMap.outside = s.outside := by
  unfold State.installMap
  dsimp only
  rw [State.outside_foldl (fun t n => t.notify_outside n), State.jobIdle_outside]
  rfl

@[simp] theorem State.installReport_outside : s.installReport.2.outside = s.outside := by
  unfold State.installReport; repeat' split
  all_goals simp

@[simp] theorem State.removeLost_outside (count : Nat) : (s.removeLost count).outside = s.outside := by
  unfold State.removeLost
  dsimp only
  split
  · rw [State.jobTo_outside]; rfl
  · rfl

/-- A change of the state's blocks leaves the outside; then so does what follows it. -/
theorem State.mgmtGood_outside_of {s t : State} (h : t.outside = s.outside) (tag : Nat) :
    (t.mgmtGood tag).2.outside = s.outside := (t.mgmtGood_outside tag).trans h

@[simp] theorem State.takeIdentify_outside (tag : Nat) (ps : List Byte) : (s.takeIdentify tag ps).2.outside = s.outside := by
  unfold State.takeIdentify; split <;> simp

@[simp] theorem State.takeReadStatus_outside (tag : Nat) (ps : List Byte) : (s.takeReadStatus tag ps).2.outside = s.outside := by
  unfold State.takeReadStatus; split <;> simp

@[simp] theorem State.takeReadMap_outside (tag : Nat) (ps : List Byte) : (s.takeReadMap tag ps).2.outside = s.outside := by
  unfold State.takeReadMap; split <;> simp

@[simp] theorem State.takeReadPacing_outside (tag : Nat) (ps : List Byte) : (s.takeReadPacing tag ps).2.outside = s.outside := by
  unfold State.takeReadPacing; split <;> simp

@[simp] theorem State.takeReadMilestones_outside (tag : Nat) (ps : List Byte) : (s.takeReadMilestones tag ps).2.outside = s.outside := by
  unfold State.takeReadMilestones; split <;> simp

@[simp] theorem State.takeLoadMap_outside (tag : Nat) (ps : List Byte) : (s.takeLoadMap tag ps).2.outside = s.outside := by
  unfold State.takeLoadMap
  split
  · exact s.mgmtRefuse_outside _ _
  · exact State.mgmtGood_outside_of rfl _

@[simp] theorem State.takeSetNotices_outside (tag : Nat) (ps : List Byte) : (s.takeSetNotices tag ps).2.outside = s.outside := by
  unfold State.takeSetNotices
  split
  · exact s.mgmtRefuse_outside _ _
  · exact State.mgmtGood_outside_of rfl _

@[simp] theorem State.takeLoadMilestones_outside (tag : Nat) (ps : List Byte) : (s.takeLoadMilestones tag ps).2.outside = s.outside := by
  unfold State.takeLoadMilestones
  split
  · exact s.mgmtRefuse_outside _ _
  · exact State.mgmtGood_outside_of rfl _

@[simp] theorem State.takeCommitMap_outside (tag : Nat) (ps : List Byte) :
    (s.takeCommitMap tag ps).2.outside = s.outside := by
  unfold State.takeCommitMap
  split
  · simp
  · split
    · simp
    · split
      · simp
      · rfl

@[simp] theorem State.takeSetPacing_outside (tag : Nat) (ps : List Byte) :
    (s.takeSetPacing tag ps).2.outside = s.outside := by
  unfold State.takeSetPacing
  split
  · simp
  · dsimp only
    split
    · rfl
    · exact State.mgmtGood_outside_of rfl _

@[simp] theorem State.takeSetPolicy_outside (tag : Nat) (ps : List Byte) :
    (s.takeSetPolicy tag ps).2.outside = s.outside := by
  unfold State.takeSetPolicy
  split
  · simp
  · dsimp only
    split
    · rw [State.jobIdle_outside]; rfl
    · rfl

@[simp] theorem State.takeClearSticky_outside (tag : Nat) (ps : List Byte) :
    (s.takeClearSticky tag ps).2.outside = s.outside := by
  unfold State.takeClearSticky
  split
  · simp
  · exact State.mgmtGood_outside_of rfl _

@[simp] theorem State.takeStart_outside (tag : Nat) (ps : List Byte) : (s.takeStart tag ps).2.outside = s.outside := by
  unfold State.takeStart; repeat' split
  all_goals simp

@[simp] theorem State.takeStop_outside (tag : Nat) (ps : List Byte) : (s.takeStop tag ps).2.outside = s.outside := by
  unfold State.takeStop
  repeat' split
  all_goals simp
  all_goals rfl

@[simp] theorem State.takeAbandon_outside (tag : Nat) (ps : List Byte) :
    (s.takeAbandon tag ps).2.outside = s.outside := by
  unfold State.takeAbandon; dsimp only; repeat' split
  all_goals simp

@[simp] theorem State.takeFailMember_outside (tag : Nat) (ps : List Byte) :
    (s.takeFailMember tag ps).2.outside = s.outside := by
  unfold State.takeFailMember; dsimp only; repeat' split
  all_goals simp

@[simp] theorem State.takeRestorePort_outside (tag : Nat) (ps : List Byte) :
    (s.takeRestorePort tag ps).2.outside = s.outside := by
  unfold State.takeRestorePort; dsimp only; repeat' split
  all_goals simp

@[simp] theorem State.takeClearHealth_outside (tag : Nat) (ps : List Byte) :
    (s.takeClearHealth tag ps).2.outside = s.outside := by
  unfold State.takeClearHealth; dsimp only; repeat' split
  all_goals simp

@[simp] theorem State.takeTakeLost_outside (tag : Nat) (ps : List Byte) :
    (s.takeTakeLost tag ps).2.outside = s.outside := by
  unfold State.takeTakeLost; dsimp only; repeat' split
  all_goals simp

@[simp] theorem State.takeReset_outside (tag : Nat) (ps : List Byte) : (s.takeReset tag ps).2.outside = s.outside := by
  unfold State.takeReset
  split
  · simp
  · rw [State.answer_outside]; rfl

@[simp] theorem State.takeCommand_outside (tag : Nat) (record : List Byte) :
    (s.takeCommand tag record).2.outside = s.outside := by
  unfold State.takeCommand; repeat' split
  all_goals simp

/-! ## Frames -/

@[simp] theorem State.newMember_outside (e : InFlight) : (s.newMember e).2.outside = s.outside := by
  unfold State.newMember; dsimp only; repeat' split
  all_goals simp

@[simp] theorem State.newManage_outside (e : InFlight) (record : List Byte) :
    (s.newManage e record).2.outside = s.outside := by
  unfold State.newManage; split <;> simp

@[simp] theorem State.takeFrame_outside (f : Frame) : (s.takeFrame f).2.outside = s.outside := by
  unfold State.takeFrame; dsimp only; repeat' split
  all_goals simp

theorem State.bridgeReset_outside : s.bridgeReset.outside = s.outside := rfl

theorem State.responseSent_outside : s.responseSent.outside = s.outside := by
  unfold State.responseSent
  split
  · dsimp only
    split
    · rfl
    · split <;> rfl
  · rfl

theorem State.noticeSent_outside : s.noticeSent.outside = s.outside := by
  unfold State.noticeSent; split <;> rfl

theorem State.gapElapses_outside : s.gapElapses.outside = s.outside := by
  unfold State.gapElapses; split <;> rfl

theorem State.tickExpiry_outside : s.tickExpiry.2.outside = s.outside := by
  unfold State.tickExpiry; dsimp only; split <;> rfl

/-! ## The end of a step -/

/-- The end of a step leaves the queue of commands and the link, and the frames that a link which is down holds (R60). -/
theorem State.settle_outside : s.settle.2.outside = s.outside ∨
    s.channel.up = true ∧ s.settle.2.pending = s.pending ∧ s.settle.2.channel.up = s.channel.up := by
  unfold State.settle
  split
  · exact .inl s.installReport_outside
  · split
    · exact .inl rfl
    · split
      · exact .inl rfl
      · split
        · exact .inl s.transmit_outside
        · next f rest _ =>
          split
          · next h =>
            have taken := State.takeFrame_outside { s with channel := { s.channel with linkFrames := rest } } f
            exact .inr ⟨h.1, congrArg Prod.fst taken, congrArg (fun x => x.2.1) taken⟩
          · exact .inl s.transmit_outside

/-- Every internal effect but the end of a step leaves the outside. -/
theorem handle_outside (w : Work) (s : State) : (handle w s).2.outside = s.outside ∨
    s.channel.up = true ∧ (handle w s).2.pending = s.pending ∧ (handle w s).2.channel.up = s.channel.up := by
  cases w
  case settle => exact s.settle_outside
  all_goals exact .inl (by simp [handle])

theorem handle_pending (w : Work) (s : State) : (handle w s).2.pending = s.pending := by
  rcases handle_outside w s with h | ⟨-, h, -⟩
  · exact congrArg Prod.fst h
  · exact h

/-- The queue of commands that a command runs with is the queue it leaves. -/
theorem pending_kept (l : List Instr) : KeptByCommands (fun s => s.pending = l) where
  effect w s h := (handle_pending w s).trans h
  linkFrames _ _ h := h
  up _ _ h := h
  installReport s h := (congrArg Prod.fst s.installReport_outside).trans h
  grant _ _ h := h
  advanceTo _ _ h := h
  periodEnd _ _ h := h
  tickExpiry s h := (congrArg Prod.fst s.tickExpiry_outside).trans h
  bridgeReset _ h := h
  powerOnReset _ h := h
  channelReset _ h := h
  linkUp _ _ h := h
  linkDown s p h := (congrArg Prod.fst (s.linkDown_outside p)).trans h
  driveCompletion s p id r h := (congrArg Prod.fst (s.driveCompletion_outside p id r)).trans h
  driveTimeout s p id h := (congrArg Prod.fst (s.driveTimeout_outside p id)).trans h
  gapElapses s h := (congrArg Prod.fst s.gapElapses_outside).trans h
  responseSent s h := (congrArg Prod.fst s.responseSent_outside).trans h
  noticeSent s h := (congrArg Prod.fst s.noticeSent_outside).trans h

/-! ## A link that is down -/

/-- The upstream link is down and holds these frames. -/
def State.linkHolds (frames : List Frame) (s : State) : Prop := s.channel.up = false ∧ s.channel.linkFrames = frames

theorem State.linkHolds.of_outside {frames : List Frame} {s t : State} (h : s.linkHolds frames)
    (e : t.outside = s.outside) : t.linkHolds frames :=
  ⟨(congrArg (fun x => x.2.1) e).trans h.1, (congrArg (fun x => x.2.2) e).trans h.2⟩

/-- While the link is down no effect takes a frame that it holds (R60). -/
theorem State.linkHolds.handle {frames : List Frame} {s : State} (h : s.linkHolds frames) (w : Work) :
    (handle w s).2.linkHolds frames := by
  rcases handle_outside w s with e | ⟨up, -⟩
  · exact h.of_outside e
  · rw [h.1] at up
    cases up

theorem State.linkHolds.cascade {frames : List Frame} {s t : State} {work : List Work} (h : s.linkHolds frames)
    (e : cascade work s = .next t) : t.linkHolds frames :=
  cascade_keeps (fun w _ hs => hs.handle w) h e

/-- A frame sent while the link is down does not arrive (R60). -/
theorem receive_down {s : State} (h : s.channel.up = false) (f : Frame) : receive f s = .next s := by
  rw [receive, if_neg (by simp [h])]

/-- Every command that is a frame sends that frame to the channel port. -/
theorem exec_frame {c : Instr} {f : Frame} (h : frameOf c = some f) (s : State) : exec c s = receive f s := by
  cases c <;> cases h <;> rfl

/-- A quiet bridge with a full refusal list leaves the frame to the link (R42). -/
theorem State.Quiet.receive_full {s : State} (h : s.Quiet) (full : Config.refusalBound ≤ s.channel.refusals)
    (f : Frame) : receive f s = .next (s.holding [f]) := by
  have end_ : (s.holding [f]).settle = ([], (s.holding [f]).transmit) :=
    State.settle_held (.inr full) h.commit h.stalledReady h.timer
  have rests : (s.holding [f]).transmit = s.holding [f] := State.transmit_of_rests _ h.tx
  rw [receive, if_pos h.up, h.link]
  apply cascade_eq_of_owed (s := s.holding [f]) h.owed
  rw [List.nil_append, run_step (by decide) (show handle .settle (s.holding [f]) = _ from end_), List.nil_append, run_nil,
    rests]

/-- Whatever command comes but the link's return and the resets that empty it, a link that is down keeps its frames
(R60). -/
theorem State.linkHolds.exec {frames : List Frame} {s t : State} {c : Instr} (h : s.linkHolds frames)
    (noReturn : c ≠ .upstreamLinkUp) (noPower : c ≠ .powerOnReset) (noChannel : c ≠ .channelReset)
    (e : exec c s = .next t) : t.linkHolds frames := by
  have guarded {p : Prop} [Decidable p] {u : State} {work : List Work} (hu : u.outside = s.outside)
      (e : (if p then Machine.cascade work u else .next s) = .next t) : t.linkHolds frames := by
    split at e
    · exact (h.of_outside hu).cascade e
    · cases e; exact h
  cases c with
  | upstreamLinkUp => exact absurd rfl noReturn
  | powerOnReset => exact absurd rfl noPower
  | channelReset => exact absurd rfl noChannel
  | upstreamLinkDown => cases e; exact ⟨rfl, h.2⟩
  | bridgeReset => exact (h.of_outside s.bridgeReset_outside).cascade e
  | driveLinkUp p => exact (h.of_outside (s.linkUp_outside p)).cascade e
  | driveLinkDown p => exact (h.of_outside (s.linkDown_outside p)).cascade e
  | tick => exact (h.of_outside s.tickExpiry_outside).cascade e
  | periodEnd => exact (h.of_outside (t := (s.advanceTo _).periodEnd _) rfl).cascade e
  | noticeGapElapsed => exact (h.of_outside s.gapElapses_outside).cascade e
  | mapInstallation => exact guarded s.installReport_outside e
  | driveCompletion p id r => exact guarded (s.driveCompletion_outside p id r) e
  | driveTimeout p id => exact guarded (s.driveTimeout_outside p id) e
  | responseFrameSent => exact guarded s.responseSent_outside e
  | lockGranted c => exact guarded (s.grant_outside c) e
  | settleTimerExpiry =>
    simp only [Machine.exec, execSettleTimerExpiry] at e
    split at e
    · exact (h.of_outside (s.advanceTo_outside _)).cascade e
    · cases e; exact h
  | noticeFrameSent =>
    simp only [Machine.exec, execNoticeFrameSent] at e
    split at e
    · exact (h.of_outside s.noticeSent_outside).cascade e
    all_goals (cases e; exact h)
  | _ =>
    rw [exec_frame rfl, receive_down h.1] at e
    cases e
    exact h

end Sys2Proof.Machine

open Sys2Proof Sys2Proof.Machine

/-- Settles O2: no effect of a command touches the queue of commands. -/
theorem stepTakesOneCommand : Obligations.StepTakesOneCommand := by
  constructor
  · intro s t e
    unfold step at e
    split at e
    · next empty => cases e; rw [empty]; rfl
    · next c rest queue =>
      rw [queue]
      exact (pending_kept rest).exec (s := { s with pending := rest }) rfl e
  · intro s empty
    rw [step, empty]

/-- Settles O7, by the link's state (R60) and by the room in the refusal list (R42). -/
theorem frameAtTheLink : Obligations.FrameAtTheLink := by
  constructor
  · intro c f s frame
    rw [exec_frame frame]
    exact ⟨fun down => receive_down down f, fun quiet full => quiet.receive_full full f⟩
  · intro c s t down noReturn noPower noChannel e
    exact State.linkHolds.exec ⟨down, rfl⟩ noReturn noPower noChannel e
end

section
/-! SUPPORT. A frame that a bridge at rest refuses, answers or keeps at once (R42 to R45, R156). -/
namespace Sys2Proof.Machine

/-! ## Commands and their frames -/

/-- A command record's command sends that record (R177). -/
theorem frameOf_commandOf (h : Header) (record : List Byte) : frameOf (commandOf h record) = some (.manage h record) := by
  cases record with
  | nil => rfl
  | cons code ps =>
    simp only [commandOf]
    split
    case h_21 => rfl
    all_goals next hc => exact congrArg (fun b => some (Frame.manage h (b :: ps))) (BitVec.eq_of_toNat_eq hc.symm)

theorem exec_commandOf (h : Header) (record : List Byte) (s : State) :
    exec (commandOf h record) s = receive (.manage h record) s := exec_frame (frameOf_commandOf h record) s

/-- A request to a slot sends its frame, with the data of a WRITE (R174). -/
theorem exec_memberFrame (op : MemberOp) (h : Header) (len : Nat) (data : List Sector) (s : State) :
    exec (memberFrame op h len data) s = receive (.member op h len (op.kept data)) s := by
  cases op <;> rfl

/-! ## A busy transmitter -/

/-- A transmitter that has a response before it begins nothing else (R59). -/
theorem State.transmit_of_busy {s : State} {x : Transmitter} (h : s.channel.tx = x.busy) : s.transmit = s :=
  s.transmit_of_rests fun idle => absurd (h.symm.trans idle) x.busy_ne_idle

/-! ## Refused before it has an entry -/

theorem State.refuseFrame_up {s : State} (up : s.channel.up = true) (tag : Byte) (st : Status) :
    s.refuseFrame tag st = s.withRefusal tag st := s.queueResponse_up up _

/-- A frame refused at the channel port leaves its refusal and nothing else (R42, R43). -/
theorem State.Rests.receive_refused {s : State} (hs : s.Rests) (room : s.channel.refusals < Config.refusalBound)
    {f : Frame} {tag : Byte} {st : Status} (refused : s.takeFrame f = ([], s.refuseFrame tag st)) :
    receive f s = .next (s.withRefusal tag st) := by
  apply receive_eq hs room
  rw [refused, State.refuseFrame_up hs.up, List.nil_append,
    run_settle (s := s.withRefusal tag st) (by decide) hs.link hs.commit hs.stall hs.timer,
    State.transmit_of_busy (s := s.withRefusal tag st) rfl]

/-- A member request of a wrong form (R42, R174). -/
theorem State.takeFrame_member_malformed {op : MemberOp} {h : Header} {len : Nat}
    (bad : Config.tagBound < h.tag.toNat ∨ len ≠ op.frameLength h) (data : List Sector) (s : State) :
    s.takeFrame (.member op h len data) = ([], s.refuseFrame h.tag .format) := if_pos bad

/-- A MANAGE request of a wrong form (R42, R174). -/
theorem State.takeFrame_manage_malformed {h : Header} {record : List Byte}
    (bad : Config.tagBound < h.tag.toNat ∨ record = []) (s : State) :
    s.takeFrame (.manage h record) = ([], s.refuseFrame h.tag .format) := if_pos bad

/-- A well-formed member request with a tag in use (R43). -/
theorem State.takeFrame_member_inUse {s : State} {op : MemberOp} {h : Header} (tag : h.tag.toNat ≤ Config.tagBound)
    (inUse : (s.entry? h.tag.toNat).isSome = true) (data : List Sector) :
    s.takeFrame (.member op h (op.frameLength h) data) = ([], s.refuseFrame h.tag .tagInUse) := by
  have good : ¬ (Config.tagBound < h.tag.toNat ∨ op.frameLength h ≠ op.frameLength h) := by simp [tag]
  rw [State.takeFrame, if_neg good, if_pos inUse]

/-- A well-formed MANAGE request with a tag in use (R43). -/
theorem State.takeFrame_manage_inUse {s : State} {h : Header} (tag : h.tag.toNat ≤ Config.tagBound)
    (inUse : (s.entry? h.tag.toNat).isSome = true) {record : List Byte} (hr : record ≠ []) :
    s.takeFrame (.manage h record) = ([], s.refuseFrame h.tag .tagInUse) := by
  have good : ¬ (Config.tagBound < h.tag.toNat ∨ record = []) := by simp [tag, hr]
  rw [State.takeFrame, if_neg good, if_pos inUse]

/-! ## Given an entry -/

/-- A well-formed member request with a free tag takes an entry (R43). -/
theorem State.takeFrame_member {s : State} {op : MemberOp} {h : Header} (hs : s.Takes h) (data : List Sector) :
    s.takeFrame (.member op h (op.frameLength h) (op.kept data)) =
      (s.addEntry (newEntry op.reqOp h (op.kept data))).newMember (newEntry op.reqOp h (op.kept data)) := by
  have good : ¬ (Config.tagBound < h.tag.toNat ∨ op.frameLength h ≠ op.frameLength h) := by simp [hs.tag]
  have kept : (if op = .write then op.kept data else []) = op.kept data := by cases op <;> rfl
  rw [State.takeFrame, if_neg good, if_neg (by simp [hs.free]), kept]

/-- A well-formed MANAGE request with a free tag takes an entry (R43). -/
theorem State.takeFrame_manage_entry {s : State} {h : Header} (hs : s.Takes h) {record : List Byte} (hr : record ≠ []) :
    s.takeFrame (.manage h record) =
      (s.addEntry (newEntry .manage h [])).newManage (newEntry .manage h []) record := by
  have good : ¬ (Config.tagBound < h.tag.toNat ∨ record = []) := by simp [hs.tag, hr]
  rw [State.takeFrame, if_neg good, if_neg (by simp [hs.free])]

/-- Whether the table is drained does not change with an entry that is no open member request (R45). -/
theorem State.drained_append {s t : State} {e : InFlight} (table : t.table = s.table ++ [e])
    (closed : e.openMember = false) : t.drained = s.drained := by
  simp [State.drained, table, closed]

/-- No report becomes due with an entry that is no open member request (R45). -/
theorem State.commitReady_append {s t : State} {e : InFlight} (table : t.table = s.table ++ [e])
    (closed : e.openMember = false) (current : t.target.current = s.target.current) : t.commitReady = s.commitReady := by
  simp only [State.commitReady, current, State.drained_append table closed]

/-- A bridge at rest is so still with one more request, answered. -/
theorem State.Rests.withAnswered {s : State} (hs : s.Rests) (e : InFlight) (r : Response) : (s.withAnswered e r).Rests where
  up := hs.up
  link := hs.link
  commit := (State.commitReady_append (s := s) (t := s.withAnswered e r) rfl (by simp [InFlight.openMember]) rfl).trans
    hs.commit
  stall := hs.stall
  timer := hs.timer
  owed := hs.owed

/-- A request that is answered as it arrives leaves its answer and nothing else (R44, R58). -/
theorem State.Takes.receive_answered {s u : State} {h : Header} (hs : s.Takes h) {f : Frame} {e : InFlight}
    (hu : u.Takes h) (tag : e.tag = h.tag.toNat) (open_ : e.answerable = true) {r : Response}
    (answered : s.takeFrame f = ([], (u.addEntry e).answer e.tag r)) :
    receive f s = .next (u.withAnswered e r) := by
  have free : u.entry? e.tag = none := tag ▸ hu.free
  apply receive_eq hs.toRests hs.room
  rw [answered, List.nil_append, State.answer_addEntry free hu.up open_,
    run_end (by decide) (hu.toRests.withAnswered e r),
    State.transmit_of_busy (s := u.withAnswered e r) rfl]

/-! ## Member requests that fail a check (R44, R45, R9) -/

variable {s : State} {op : MemberOp} {h : Header} {data : List Sector}

/-- A request to slot 15, and one to an absent slot (R7, R44). -/
theorem State.Takes.receive_member_refused (hs : s.Takes h) {st : Status}
    (refused : ∀ t : State, t.target = s.target → ∀ e : InFlight, e.slot = h.slot.toNat →
      t.newMember e = ([], t.answer e.tag (.plain st))) :
    receive (.member op h (op.frameLength h) (op.kept data)) s =
      .next (s.withAnswered (newEntry op.reqOp h (op.kept data)) (.plain st)) := by
  apply hs.receive_answered (e := newEntry op.reqOp h (op.kept data)) hs rfl rfl
  rw [State.takeFrame_member hs]
  exact refused (s.addEntry _) rfl (newEntry op.reqOp h (op.kept data)) rfl

/-- The offset in the strip is the remainder of the address (R8). -/
theorem State.placeOf_eq (s : State) (a : Nat) :
    s.placeOf a = { stripe := a / s.stripBlocks, offset := a % s.stripBlocks } := by
  rw [State.placeOf, Nat.mod_eq_sub_div_mul]

/-- A request that passes its slot is placed, and goes on to the geometry checks (R8, R9). -/
theorem State.Takes.newMember_placed (hs : s.Takes h) (slot : h.slot ≠ 15) (member : h.slot.toNat < s.width)
    (noCommit : s.committing = false) :
    s.takeFrame (.member op h (op.frameLength h) (op.kept data)) =
      match s.geometry h.addr.toNat h.count.toNat with
      | .error st => ([], (s.addEntry (placedEntry op h data (s.placeOf h.addr.toNat))).answer h.tag.toNat (.plain st))
      | .ok _ => ([.route h.tag.toNat false], s.addEntry (placedEntry op h data (s.placeOf h.addr.toNat))) := by
  have slot15 : h.slot.toNat ≠ 15 := fun e => slot (BitVec.eq_of_toNat_eq e)
  have resolves : s.resolveSlot h.slot.toNat = .member := by rw [State.resolveSlot, if_neg slot15, if_pos member]
  rw [State.takeFrame_member hs]
  let e := newEntry op.reqOp h (op.kept data)
  have free : s.entry? e.tag = none := hs.free
  have placed : (s.addEntry e).setEntry e.tag (fun x => { x with place := some (s.placeOf h.addr.toNat) }) =
      s.addEntry (placedEntry op h data (s.placeOf h.addr.toNat)) := State.setEntry_addEntry free _
  have resolves' : (s.addEntry e).resolveSlot e.slot = .member := resolves
  have noCommit' : (s.addEntry e).committing = false := noCommit
  show (s.addEntry e).newMember e = _
  unfold State.newMember
  rw [resolves']
  simp only [noCommit', Bool.false_eq_true, if_false]
  rw [show (s.addEntry e).placeOf e.addr = s.placeOf h.addr.toNat from rfl, placed]
  rfl

/-- A request refused by its geometry keeps its stripe and offset (R8, R9). -/
theorem State.Takes.receive_member_misplaced (hs : s.Takes h) (slot : h.slot ≠ 15) (member : h.slot.toNat < s.width)
    (noCommit : s.committing = false) {st : Status} (bad : s.geometry h.addr.toNat h.count.toNat = .error st) :
    receive (.member op h (op.frameLength h) (op.kept data)) s =
      .next (s.withAnswered (placedEntry op h data
        { stripe := h.addr.toNat / s.stripBlocks, offset := h.addr.toNat % s.stripBlocks }) (.plain st)) := by
  rw [← State.placeOf_eq]
  apply hs.receive_answered (e := placedEntry op h data (s.placeOf h.addr.toNat)) hs rfl rfl
  rw [hs.newMember_placed slot member noCommit, bad]
  rfl

end Sys2Proof.Machine

open Sys2Proof Sys2Proof.Machine

/-- Settles O8, by the check of form that each frame fails (R42, R174). -/
theorem malformedFrameRefused : Obligations.MalformedFrameRefused := by
  intro s rests room
  refine ⟨fun tag op len => rests.receive_refused room rfl, fun first => rests.receive_refused room rfl,
    fun op h len data bad => ?_, fun h record bad => ?_⟩
  · rw [exec_memberFrame]
    exact rests.receive_refused room (State.takeFrame_member_malformed bad _ s)
  · rw [exec_commandOf]
    exact rests.receive_refused room (State.takeFrame_manage_malformed bad s)

/-- Settles O9, by the check of the tag that follows the check of form (R43). -/
theorem tagInUseRefused : Obligations.TagInUseRefused := by
  intro s h rests room tag inUse
  constructor
  · intro op data
    rw [memberRequest, exec_memberFrame]
    exact rests.receive_refused room (State.takeFrame_member_inUse tag inUse _)
  · intro record hr
    rw [exec_commandOf]
    exact rests.receive_refused room (State.takeFrame_manage_inUse tag inUse hr)

/-- Settles O10, check by check (R44, R45, R9). -/
theorem memberRequestChecks : Obligations.MemberRequestChecks := by
  intro s op h data takes answered result a n mapped
  have result_eq : result = receive (.member op h (op.frameLength h) (op.kept data)) s := exec_memberFrame _ _ _ _ _
  refine ⟨fun slot => ?_, fun slot absent => ?_, fun slot member committing => ?_, fun slot member noCommit => ⟨?_, ?_⟩⟩
  · rw [result_eq]
    refine takes.receive_member_refused fun t target e he => ?_
    have : t.resolveSlot e.slot = .management := by simp [State.resolveSlot, he, slot]
    simp only [State.newMember, this]
  · rw [result_eq]
    have slot15 : h.slot.toNat ≠ 15 := fun e => slot (BitVec.eq_of_toNat_eq e)
    refine takes.receive_member_refused fun t target e he => ?_
    have : t.resolveSlot e.slot = .noMember := by
      have width : t.width = s.width := by rw [State.width, target]; rfl
      rw [State.resolveSlot, he, if_neg slot15, if_neg (by omega)]
    simp only [State.newMember, this]
  · rw [result_eq]
    have slot15 : h.slot.toNat ≠ 15 := fun e => slot (BitVec.eq_of_toNat_eq e)
    refine takes.receive_member_refused fun t target e he => ?_
    have resolves : t.resolveSlot e.slot = .member := by
      have width : t.width = s.width := by rw [State.width, target]; rfl
      rw [State.resolveSlot, he, if_neg slot15, if_pos (by omega)]
    have : t.committing = true := by rw [State.committing, target]; exact committing
    simp only [State.newMember, resolves, this, if_true]
  · intro range
    rw [result_eq]
    apply takes.receive_member_misplaced slot member noCommit
    by_cases zero : n = 0
    · exact if_pos zero
    · rw [State.geometry, if_neg zero, if_pos (range.resolve_left zero)]
  · intro some_ inside past
    rw [result_eq]
    apply takes.receive_member_misplaced slot member noCommit
    rw [State.geometry, if_neg some_, if_neg (by omega), State.placeOf_eq, if_pos past]

/-- Settles O11, by the slot and by the room in the waiting list (R44, R156). -/
theorem manageRequestPlaced : Obligations.ManageRequestPlaced := by
  intro s h record takes rests hr answered result
  have result_eq : result = receive (.manage h record) s := exec_commandOf h record s
  have slot15 : h.slot ≠ 15 → h.slot.toNat ≠ 15 := fun slot e => slot (BitVec.eq_of_toNat_eq e)
  have taken := State.takeFrame_manage_entry takes hr
  refine ⟨fun slot member => ?_, fun slot absent => ?_, fun slot busy => ?_⟩
  · rw [result_eq]
    refine takes.receive_answered (e := newEntry .manage h []) takes rfl rfl ?_
    have : (s.addEntry (newEntry .manage h [])).resolveSlot h.slot.toNat = .member := by
      rw [State.resolveSlot, if_neg (slot15 slot)]; exact if_pos member
    rw [taken, State.newManage, show (newEntry .manage h []).slot = h.slot.toNat from rfl, this]
  · rw [result_eq]
    refine takes.receive_answered (e := newEntry .manage h []) takes rfl rfl ?_
    have : (s.addEntry (newEntry .manage h [])).resolveSlot h.slot.toNat = .noMember := by
      rw [State.resolveSlot, if_neg (slot15 slot)]; exact if_neg (not_lt.mpr absent)
    rw [taken, State.newManage, show (newEntry .manage h []).slot = h.slot.toNat from rfl, this]
  · obtain ⟨inProgress, current⟩ := Option.isSome_iff_exists.mp busy
    let e : InFlight := { newEntry .manage h [] with state := .issued }
    have free : s.entry? (newEntry .manage h []).tag = none := takes.free
    have placed : s.takeFrame (.manage h record) = (s.addEntry e).placeCommand h.tag.toNat record := by
      have resolves : (s.addEntry (newEntry .manage h [])).resolveSlot (newEntry .manage h []).slot = .management := by
        simp [State.resolveSlot, newEntry, slot]
      rw [taken, State.newManage, resolves]
      exact congrArg (fun t : State => t.placeCommand h.tag.toNat record) (State.setEntry_addEntry free _)
    have current' : (s.addEntry e).target.current = some inProgress := current
    constructor
    · intro room
      let waits : State := { s.addEntry e with
        target := { s.target with waiting := s.target.waiting ++ [(h.tag.toNat, record)] } }
      have waiting : s.takeFrame (.manage h record) = ([], waits) := by
        rw [placed, State.placeCommand, current']
        exact if_pos room
      have commit : waits.commitReady = none :=
        (State.commitReady_append (s := s) (t := waits) (e := e) rfl rfl rfl).trans takes.commit
      have atRest : waits.transmit = waits := waits.transmit_of_rests rests
      rw [result_eq]
      apply receive_eq takes.toRests takes.room
      rw [waiting, List.nil_append, run_settle (s := waits) (by decide) takes.link commit takes.stall takes.timer, atRest]
      rfl
    · intro full
      have latched : ({ s with target := { s.target with lastError := some .busy } } : State).Takes h :=
        { up := takes.up, link := takes.link, commit := takes.commit, stall := takes.stall, timer := takes.timer
          owed := takes.owed, room := takes.room, tag := takes.tag, free := takes.free }
      rw [result_eq]
      refine takes.receive_answered (e := e) latched rfl rfl ?_
      rw [placed, State.placeCommand, current']
      exact if_neg (not_lt.mpr full)

end

section
/-! SUPPORT. Agendas worked off in part, and the commands that the management target answers at once (R157). -/
namespace Sys2Proof.Machine

/-! ## Agendas worked off in part -/

/-- Working this part of an agenda off takes k effects and leads from state s to state t, whatever else is owed. -/
def Brings (k : Nat) (work : List Work) (s t : State) : Prop :=
  ∀ n rest, k ≤ n → run n (work ++ rest) s = run (n - k) rest t

theorem Brings.nil (s : State) : Brings 0 [] s s := fun _ _ _ => rfl

/-- One effect, and what it brings. -/
theorem Brings.cons {k : Nat} {w : Work} {work more : List Work} {s t u : State} (e : handle w s = (more, t))
    (h : Brings k (more ++ work) t u) : Brings (k + 1) (w :: work) s u := by
  intro n rest hn
  rw [List.cons_append, run_step (by omega) e, ← List.append_assoc, h (n - 1) rest (by omega)]
  congr 1
  omega

/-- One effect that brings no other. -/
theorem Brings.step {k : Nat} {w : Work} {work : List Work} {s t u : State} (e : handle w s = ([], t))
    (h : Brings k work t u) : Brings (k + 1) (w :: work) s u := .cons e h

/-- One effect that brings no other, alone. -/
theorem Brings.one {w : Work} {s t : State} (e : handle w s = ([], t)) : Brings 1 [w] s t := .step e (.nil t)

theorem Brings.append {k l : Nat} {work more : List Work} {s t u : State} (h : Brings k work s t)
    (g : Brings l more t u) : Brings (k + l) (work ++ more) s u := by
  intro n rest hn
  rw [List.append_assoc, h n (more ++ rest) (by omega), g (n - k) rest (by omega), Nat.sub_sub]

/-- A command whose effects end in a bridge at rest, with no lock request owed before them. -/
theorem Brings.cascade {k : Nat} {work : List Work} {s t : State} (h : Brings k work s t) (owed : s.engine.owed = none)
    (hk : k < Config.cascadeBound) (ht : t.Rests) : cascade work s = .next t.transmit := by
  apply cascade_eq_of_owed owed
  rw [h _ _ hk.le, run_end (by omega) ht]

/-- A frame whose effects end in a bridge at rest. -/
theorem Brings.receive {k : Nat} {s t : State} {f : Frame} (h : Brings k (s.takeFrame f).1 (s.takeFrame f).2 t)
    (hs : s.Rests) (room : s.channel.refusals < Config.refusalBound) (hk : k + 1 < Config.cascadeBound) (ht : t.Rests) :
    receive f s = .next t.transmit := by
  apply receive_eq hs room
  rw [h _ _ (by omega), run_end (by omega) ht]

/-! ## A bridge that serves the management target -/

variable {s : State} {h : Header}

/-- A state that differs from a bridge at rest in nothing that could be due is at rest. -/
theorem State.Rests.of_same {u : State} (hs : s.Rests) (timer : u.settleDue = false)
    (commit : u.commitReady = none)
    (up : u.channel.up = s.channel.up := by simp) (link : u.channel.linkFrames = s.channel.linkFrames := by simp)
    (ctxs : u.engine.ctxs = s.engine.ctxs := by simp) (owed : u.engine.owed = s.engine.owed := by simp) : u.Rests where
  up := up.trans hs.up
  link := link.trans hs.link
  commit := commit
  stall c := by rw [State.ctx_congr ctxs c]; exact hs.stall c
  timer := timer
  owed := owed.trans hs.owed

/-- A state that differs from a bridge which serves the management target in nothing that hinders it serves it too. -/
theorem State.Serves.of_same {u : State} (hs : s.Serves h) (timer : u.settleDue = false)
    (up : u.channel.up = s.channel.up := by simp) (link : u.channel.linkFrames = s.channel.linkFrames := by simp)
    (responses : u.channel.responses = s.channel.responses := by simp)
    (table : u.table = s.table := by simp) (ctxs : u.engine.ctxs = s.engine.ctxs := by simp)
    (owed : u.engine.owed = s.engine.owed := by simp) (current : u.target.current = s.target.current := by simp)
    (waiting : u.target.waiting = s.target.waiting := by simp) : u.Serves h where
  toRests := hs.toRests.of_same timer (by simp [State.commitReady, current, hs.current]) up link ctxs owed
  room := by rw [Channel.refusals, responses]; exact hs.room
  tag := hs.tag
  free := by rw [State.entry?, table]; exact hs.free
  slot := hs.slot
  current := current.trans hs.current
  waiting := waiting.trans hs.waiting

/-- A command answered after the effects it brings (R157, R167, R168). -/
theorem State.Serves.answers_after (hs : s.Serves h) {record : List Byte} (hr : record ≠ []) {u t : State}
    {work : List Work} {r : Response} {k : Nat}
    (taken : (s.taking h).takeCommand h.tag.toNat record = (answerAfter work h.tag.toNat r, t))
    (effects : Brings k work t (u.taking h)) (hk : k + 5 < Config.cascadeBound) (hu : u.Serves h) :
    receive (.manage h record) s = .next (u.withMgmt h r) := by
  apply receive_manage hs hr
  rw [taken, answerAfter, List.append_assoc]
  rw [effects _ _ (by omega), List.cons_append, run_step (by omega) rfl]
  exact run_answered (by omega) hu r

/-- A command answered at once (R157). -/
theorem State.Serves.answers (hs : s.Serves h) {record : List Byte} (hr : record ≠ []) {u : State} {r : Response}
    (taken : (s.taking h).takeCommand h.tag.toNat record = (u.taking h).mgmtAnswer h.tag.toNat r) (hu : u.Serves h) :
    receive (.manage h record) s = .next (u.withMgmt h r) := by
  apply receive_manage hs hr
  rw [taken]
  exact run_answered (by decide) hu r

/-- A command refused (R157, R159). -/
theorem State.Serves.refuses (hs : s.Serves h) {record : List Byte} (hr : record ≠ []) {st : Status}
    (taken : (s.taking h).takeCommand h.tag.toNat record = (s.taking h).mgmtRefuse h.tag.toNat st) :
    receive (.manage h record) s = .next (s.mgmtRefused h st) :=
  hs.answers (u := { s with target := { s.target with lastError := some st } }) hr taken
    (hs.of_same hs.timer rfl rfl rfl rfl rfl rfl rfl rfl)

/-- A record with a code that is none of the twenty (R177). -/
theorem State.takeCommand_unknown {code : Byte} (unknown : knownCommand code = false) (s : State) (tag : Nat)
    (ps : List Byte) : s.takeCommand tag (code :: ps) = s.mgmtRefuse tag .unknown := by
  simp only [knownCommand, Bool.and_eq_false_iff, decide_eq_false_iff_not] at unknown
  simp only [State.takeCommand]
  split
  case h_21 => rfl
  all_goals omega

/-! ## Lengths of parameters (R177) -/

theorem parseMap_of_length {ps : List Byte} (h : ps.length ≠ 16) : parseMap ps = .error .format := by
  unfold parseMap
  split
  · exact absurd rfl h
  · rfl

theorem parsePacing_of_length {ps : List Byte} (h : ps.length ≠ 11) : parsePacing ps = .error .format := by
  unfold parsePacing
  split
  · exact absurd rfl h
  · rfl

theorem parsePolicy_of_length {ps : List Byte} (h : ps.length ≠ 10) : parsePolicy ps = .error .format := by
  unfold parsePolicy
  split
  · exact absurd rfl h
  · rfl

theorem parseNotices_of_length {ps : List Byte} (h : ps.length ≠ 3) : parseNotices ps = .error .format := by
  unfold parseNotices
  split
  · exact absurd rfl h
  · rfl

theorem parseStart_of_length {ps : List Byte} (h2 : ps.length ≠ 2) (h6 : ps.length ≠ 6) : parseStart ps = none := by
  unfold parseStart
  split
  · exact absurd rfl h2
  · exact absurd rfl h6
  · rfl

/-- A list of milestones whose count and length do not agree, or with too many (R145). -/
theorem parseMilestones_of_length {ps : List Byte}
    (h : ps = [] ∨ ∃ n rest, ps = n :: rest ∧ (16 < n.toNat ∨ rest.length ≠ 5 * n.toNat)) (count : Nat) :
    parseMilestones ps count = .error .format := by
  rcases h with rfl | ⟨n, rest, rfl, bad⟩
  · rfl
  · exact if_pos (bad.imp id .inl)

/-! A command of one parameter byte that is given another number of them (R177). -/

theorem State.takeFailMember_of_length (s : State) (tag : Nat) {ps : List Byte} (h : ps.length ≠ 1) :
    s.takeFailMember tag ps = s.mgmtRefuse tag .format := by
  unfold State.takeFailMember
  split
  · exact absurd rfl h
  · rfl

theorem State.takeRestorePort_of_length (s : State) (tag : Nat) {ps : List Byte} (h : ps.length ≠ 1) :
    s.takeRestorePort tag ps = s.mgmtRefuse tag .format := by
  unfold State.takeRestorePort
  split
  · exact absurd rfl h
  · rfl

theorem State.takeClearHealth_of_length (s : State) (tag : Nat) {ps : List Byte} (h : ps.length ≠ 1) :
    s.takeClearHealth tag ps = s.mgmtRefuse tag .format := by
  unfold State.takeClearHealth
  split
  · exact absurd rfl h
  · rfl

theorem State.takeTakeLost_of_length (s : State) (tag : Nat) {ps : List Byte} (h : ps.length ≠ 1) :
    s.takeTakeLost tag ps = s.mgmtRefuse tag .format := by
  unfold State.takeTakeLost
  split
  · exact absurd rfl h
  · rfl

end Sys2Proof.Machine

open Sys2Proof Sys2Proof.Machine

/-- Settles O47: the refusals of a code (R157) and of a length (R177), command by command. -/
theorem commandRefused : Obligations.CommandRefused := by
  intro s h serves unknown format
  refine ⟨fun code params hc => serves.refuses (by simp) (State.takeCommand_unknown hc _ _ _), fun params => ?_⟩
  have refused (code : Byte) (e : (s.taking h).takeCommand h.tag.toNat (code :: params) =
      (s.taking h).mgmtRefuse h.tag.toNat .format) : receive (.manage h (code :: params)) s = format :=
    serves.refuses (List.cons_ne_nil _ _) e
  refine ⟨fun some_ => ?_, fun length => ?_, fun length => ?_, fun length => ?_, fun length => ?_, fun length => ?_,
    fun two six => ?_, fun bad => ?_⟩
  · exact ⟨refused 0x01 (if_pos some_), refused 0x02 (if_pos some_), refused 0x04 (if_pos some_),
      refused 0x05 (if_pos some_), refused 0x07 (if_pos some_), refused 0x0A (if_pos some_), refused 0x0B (if_pos some_),
      refused 0x10 (if_pos some_), refused 0x13 (if_pos some_), refused 0x14 (if_pos some_)⟩
  · exact ⟨refused 0x0C (State.takeFailMember_of_length _ _ length),
      refused 0x0D (State.takeRestorePort_of_length _ _ length),
      refused 0x0E (State.takeClearHealth_of_length _ _ length), refused 0x11 (State.takeTakeLost_of_length _ _ length)⟩
  · refine refused 0x03 ?_
    show State.takeLoadMap _ _ _ = _
    rw [State.takeLoadMap, parseMap_of_length length]
  · refine refused 0x06 ?_
    show State.takeSetPacing _ _ _ = _
    rw [State.takeSetPacing, parsePacing_of_length length]
  · refine refused 0x08 ?_
    show State.takeSetPolicy _ _ _ = _
    rw [State.takeSetPolicy, parsePolicy_of_length length]
  · refine refused 0x12 ?_
    show State.takeSetNotices _ _ _ = _
    rw [State.takeSetNotices, parseNotices_of_length length]
  · refine refused 0x09 ?_
    show State.takeStart _ _ _ = _
    rw [State.takeStart, parseStart_of_length two six]
  · refine refused 0x0F ?_
    show State.takeLoadMilestones _ _ _ = _
    rw [State.takeLoadMilestones, parseMilestones_of_length bad]

end

section
/-! SUPPORT. The status record byte by byte, and the commands that read (R163, R164, R180). -/
namespace Sys2Proof.Machine

/-! ## The bytes of the status record (R180) -/

theorem flagByte_eq (b : Bool) : flagByte b = byteOf (if b then 1 else 0) := by
  cases b <;> rfl

/-- The sticky causes byte: one bit a cause. -/
theorem Causes.byte_eq (x : Causes) : x.byte = byteOf ((if x.unreadableSeen then 1 else 0) + (if x.missingSeen then 2 else 0)
    + (if x.retried then 4 else 0) + (if x.poisonWritten then 8 else 0)) := by
  obtain ⟨a, b, c, d⟩ := x
  revert a b c d
  decide

/-- The target the status record reports, byte by byte (R99). -/
theorem Job.reportedTarget_byte (j : Job) : optByte j.reportedTarget =
    match (match j.state with
      | .idle => none
      | .armed => j.armed
      | _ => j.target) with
    | some m => byteOf m
    | none => 0xFF := by
  unfold Job.reportedTarget optByte
  cases j.state <;> rfl

/-- The spare the status record reports, byte by byte (R99). -/
theorem Job.reportedSpare_byte (j : Job) : optByte j.reportedSpare =
    match (match j.state with
      | .idle | .armed => none
      | _ => j.spare) with
    | some p => byteOf p.val
    | none => 0xFF := by
  unfold Job.reportedSpare optByte
  cases j.state <;> cases j.spare <;> rfl

/-- SWEEP contexts in use, and the others, counted (R77). -/
theorem State.inUse_eq (s : State) :
    s.sweepInUse = (allCtxs.filter (fun c => (s.ctx c).state ≠ .free ∧ ((s.ctx c).kind = .sweep ↔ true = true))).length ∧
    s.foregroundInUse =
      (allCtxs.filter (fun c => (s.ctx c).state ≠ .free ∧ ((s.ctx c).kind = .sweep ↔ false = true))).length := by
  rw [State.sweepInUse, State.foregroundInUse, List.countP_eq_length_filter, List.countP_eq_length_filter]
  constructor <;>
  · congr 2
    funext c
    rw [Bool.eq_iff_iff]
    simp

/-- The bytes of the status record before those of the ports (R180). -/
def State.statusHead (s : State) : List Byte :=
  [s.arrayState.code, s.job.state.code, s.job.cause.code, optByte s.job.reportedTarget, optByte s.job.reportedSpare]
    ++ le4 s.job.w ++ le4 s.job.n ++ le4 s.stripeCount
    ++ [byteOf s.job.window.length, byteOf s.sweepInUse, byteOf s.foregroundInUse, byteOf s.job.ahead.length,
      byteOf s.lost.entries.length, byteOf s.lost.reservations,
      byteOf (s.table.countP (fun e => e.state == .held)), byteOf s.table.length, s.pacing.inForce.mode.code]
    ++ le2 s.pacing.budget ++ le2 s.pacing.credit ++ le2 s.pacing.fg
    ++ [flagByte s.pacing.stagedPending, s.engine.sticky.byte, flagByte s.notices.lost,
      (match s.target.lastError with
        | some e => e.code
        | none => 0), s.target.lastReset.code]

theorem State.statusBytes_eq (s : State) :
    s.statusBytes = s.statusHead ++ allPorts.flatMap (fun p => (s.port p).statusBytes) := rfl

theorem State.length_statusHead (s : State) : s.statusHead.length = 37 := rfl

theorem State.length_statusBytes (s : State) : s.statusBytes.length = 97 := rfl

theorem State.statusBytes_take (s : State) : s.statusBytes.take 37 = s.statusHead := by
  rw [State.statusBytes_eq, List.take_left' s.length_statusHead]

/-- Six bytes a port (R180). -/
theorem State.statusBytes_port (s : State) (p : PortId) :
    (s.statusBytes.drop (37 + 6 * p.val)).take 6 = (s.port p).statusBytes := by
  rw [State.statusBytes_eq, ← List.drop_drop, List.drop_left' s.length_statusHead]
  match p with
  | 0 | 1 | 2 | 3 | 4 | 5 | 6 | 7 | 8 | 9 => rfl

theorem Port.statusBytes_eq (x : Port) : x.statusBytes =
    [x.role.code, byteOf (if x.bound then 1 else 0), x.health.code, byteOf x.errors, byteOf x.outstanding,
      byteOf x.list.length] := by
  rw [Port.statusBytes, flagByte_eq]
  rfl

end Sys2Proof.Machine

open Sys2Proof Sys2Proof.Machine

/-- Settles O48: each command answers with its record, and the status record is read byte by byte (R180). -/
theorem readCommands : Obligations.ReadCommands := by
  intro s h serves result t target spare inUse bit
  have answered (code : Byte) {record : List Byte} (e : (s.taking h).takeCommand h.tag.toNat [code] =
      (s.taking h).mgmtResult h.tag.toNat record) : receive (.manage h [code]) s = result record :=
    serves.answers (List.cons_ne_nil _ _) e serves
  have held : t.table.countP (fun e => e.state == .held) = (s.table.filter (fun e => e.state = .held)).length := by
    rw [List.countP_append, List.countP_eq_length_filter]
    rfl
  have count : t.table.length = s.table.length + 1 := List.length_append
  refine ⟨answered 0x01 rfl, answered 0x02 rfl, t.length_statusBytes, ?_, fun p => ?_, answered 0x05 rfl,
    answered 0x07 rfl, answered 0x10 rfl⟩
  · rw [State.statusBytes_take, State.statusHead, Job.reportedTarget_byte, Job.reportedSpare_byte, Causes.byte_eq,
      flagByte_eq, flagByte_eq, held, count, t.inUse_eq.1, t.inUse_eq.2]
    rfl
  · rw [State.statusBytes_port]
    exact (t.port p).statusBytes_eq

end

section
/-! SUPPORT. Records read back from their bytes (R173, R178), notices beside a command in progress, and the commands that
load settings (R3, R129, R145, R162, R169). -/
namespace Sys2Proof.Machine

/-! ## Numbers read back (R173) -/

theorem toNat_byteOf {n : Nat} (h : n < 256) : (byteOf n).toNat = n := by
  rw [byteOf, BitVec.toNat_ofNat]
  exact Nat.mod_eq_of_lt h

theorem num2_le2 {n : Nat} (h : n < 65536) : num2 (byteOf n) (byteOf (n / 256)) = n := by
  simp only [num2, byteOf, BitVec.toNat_ofNat]
  omega

theorem num4_le4 {n : Nat} (h : n < 2 ^ 32) :
    num4 (byteOf n) (byteOf (n / 256)) (byteOf (n / 65536)) (byteOf (n / 16777216)) = n := by
  simp only [num4, byteOf, BitVec.toNat_ofNat]
  omega

/-! ## The member map record (R178) -/

/-- Any ten role bytes: FORMAT before RANGE (R3, R178). -/
theorem parseMap_eq (sb c0 c1 c2 c3 width : Byte) {roles : List Byte} (h : roles.length = 10) :
    parseMap (sb :: c0 :: c1 :: c2 :: c3 :: width :: roles) =
      if !roles.all roleByteKnown then .error .format
      else if !(sb.toNat == 0 || stripBlocksValid sb.toNat) || Config.stripeCountBound < num4 c0 c1 c2 c3
          || 9 < width.toNat || roles.any roleByteHigh then .error .range
      else .ok { stripBlocks := sb.toNat, stripeCount := num4 c0 c1 c2 c3, width := width.toNat
                 roles := ⟨(roles.map roleOfByte).toArray, by simp [h]⟩ } := by
  match roles, h with
  | [_, _, _, _, _, _, _, _, _, _], _ => rfl

theorem stripBlocks_iff (n : Nat) : (n == 0 || stripBlocksValid n) = true ↔ n ∈ [0, 8, 16, 32, 64] := by
  simp [stripBlocksValid, or_assoc]

theorem roleByteKnown_iff (b : Byte) :
    roleByteKnown b = true ↔ b.toNat ≤ 1 ∨ (0x10 ≤ b.toNat ∧ b.toNat ≤ 0x1F) := by
  simp [roleByteKnown]

/-- The role bytes of a map in range are known, none above 8, and are read back. -/
theorem Role.code_spec {r : Role} (h : ∀ i, r = .member i → i ≤ 8) :
    roleByteKnown r.code = true ∧ roleByteHigh r.code = false ∧ roleOfByte r.code = r := by
  cases r with
  | unused => exact ⟨rfl, rfl, rfl⟩
  | spare => exact ⟨rfl, rfl, rfl⟩
  | member i =>
    have small := h i rfl
    have code : (byteOf (0x10 + i)).toNat = 0x10 + i := toNat_byteOf (by omega)
    refine ⟨?_, ?_, ?_⟩
    · rw [roleByteKnown_iff, Role.code, code]; omega
    · simp only [roleByteHigh, Role.code, code, Bool.and_eq_false_iff, decide_eq_false_iff_not]; omega
    · rw [roleOfByte, Role.code, code, if_neg (by omega), if_neg (by omega), Nat.add_sub_cancel_left]

/-- A map in range is read back from its bytes (R178). -/
theorem parseMap_bytes {m : MemberMap} (blocks : m.stripBlocks ∈ [0, 8, 16, 32, 64]) (count : m.stripeCount ≤ 67108863)
    (width : m.width ≤ 9) (index : ∀ p i, m.roles.get p = .member i → i ≤ 8) : parseMap m.bytes = .ok m := by
  have blocks256 : m.stripBlocks < 256 := by simp only [List.mem_cons, List.not_mem_nil, or_false] at blocks; omega
  have length : (m.roles.toList.map Role.code).length = 10 := by simp
  have spec (r : Role) (hr : r ∈ m.roles.toList) :
      roleByteKnown r.code = true ∧ roleByteHigh r.code = false ∧ roleOfByte r.code = r := by
    obtain ⟨i, hi, rfl⟩ := List.mem_iff_getElem.mp hr
    exact Role.code_spec fun k hk => index ⟨i, by simpa using hi⟩ k hk
  have known : (m.roles.toList.map Role.code).all roleByteKnown = true := by
    rw [List.all_map, List.all_eq_true]
    exact fun r hr => (spec r hr).1
  have low : (m.roles.toList.map Role.code).any roleByteHigh = false := by
    rw [List.any_map, List.any_eq_false]
    exact fun r hr => by simp [(spec r hr).2.1]
  have back : (m.roles.toList.map Role.code).map roleOfByte = m.roles.toList := by
    rw [List.map_map]
    exact (List.map_congr_left fun r hr => (spec r hr).2.2).trans (List.map_id _)
  have bytes : m.bytes = byteOf m.stripBlocks :: byteOf m.stripeCount :: byteOf (m.stripeCount / 256) ::
      byteOf (m.stripeCount / 65536) :: byteOf (m.stripeCount / 16777216) :: byteOf m.width ::
      m.roles.toList.map Role.code := rfl
  have inRange : (!((byteOf m.stripBlocks).toNat == 0 || stripBlocksValid (byteOf m.stripBlocks).toNat) ||
      decide (Config.stripeCountBound < m.stripeCount) || decide (9 < m.width) ||
      (m.roles.toList.map Role.code).any roleByteHigh) = false := by
    rw [toNat_byteOf blocks256, low, (stripBlocks_iff _).mpr blocks, decide_eq_false (not_lt.mpr count),
      decide_eq_false (not_lt.mpr width)]
    rfl
  rw [bytes, parseMap_eq _ _ _ _ _ _ length, known, num4_le4 (by omega), toNat_byteOf (n := m.width) (by omega), inRange,
    toNat_byteOf blocks256]
  simp only [back, Bool.not_true, Bool.false_eq_true, if_false]
  rfl

/-! ## Milestones (R145, R177) -/

theorem ascending_iff (ms : List Milestone) : ascending ms = true ↔ ms.Pairwise (fun a b => a.target < b.target) := by
  have chain : ascending ms = true ↔ ms.IsChain (fun a b => a.target < b.target) := by
    fun_induction ascending ms with
    | case1 a b rest ih => simp [ih]
    | case2 a => simp
    | case3 => simp
  have : IsTrans Milestone (fun a b => a.target < b.target) := ⟨fun _ _ _ => Nat.lt_trans⟩
  rw [chain, List.isChain_iff_pairwise]

/-- The entries of a milestone list, five bytes each, are read back. -/
theorem milestonesOf_bytes {ms : List Milestone} (h : ∀ m ∈ ms, m.target < 2 ^ 32) :
    milestonesOf (ms.flatMap (fun m => le4 m.target ++ [m.tag])) = ms := by
  induction ms with
  | nil => rfl
  | cons m ms ih =>
    show ({ target := num4 _ _ _ _, tag := m.tag } : Milestone) :: milestonesOf _ = _
    rw [num4_le4 (h m List.mem_cons_self)]
    exact congrArg (m :: ·) (ih fun x hx => h x (List.mem_cons_of_mem _ hx))

theorem length_milestoneBytes (ms : List Milestone) :
    (ms.flatMap (fun m => le4 m.target ++ [m.tag])).length = 5 * ms.length := by
  induction ms with
  | nil => rfl
  | cons m ms ih => rw [List.flatMap_cons, List.length_append, ih, List.length_cons, Nat.mul_succ, Nat.add_comm]; rfl

/-- A milestone list of its own length, checked (R145). -/
theorem parseMilestones_bytes {ms : List Milestone} (length : ms.length ≤ 16) (h : ∀ m ∈ ms, m.target < 2 ^ 32)
    (count : Nat) : parseMilestones (byteOf ms.length :: ms.flatMap (fun m => le4 m.target ++ [m.tag])) count =
      if !ascending ms then .error .format
      else if ms.any (fun m => m.target == 0 || decide (count < m.target)) then .error .range
      else .ok ms := by
  have many : (byteOf ms.length).toNat = ms.length := toNat_byteOf (by omega)
  have long : ¬ Config.milestoneBound < ms.length := not_lt.mpr length
  simp only [parseMilestones, milestonesOf_bytes h, many, length_milestoneBytes, long, ne_eq, not_true, false_or]

/-! ## The pacing and the policy record (R178) -/

/-- A pacing record of numbers in two bytes, checked (R129). -/
theorem parsePacing_bytes (r : PacingRecord) (now : Byte) (tick : r.tickSelect < 256) (period : r.periodTicks < 65536)
    (share : r.share < 65536) (floor : r.floor < 65536) (weight : r.weight < 65536) :
    parsePacing (r.bytes ++ [now]) =
      if 7 < r.tickSelect ∨ r.periodTicks = 0 ∨ 255 < r.periodTicks ∨ 1023 < r.share ∨ 1023 < r.floor ∨ 255 < r.weight then
        .error .range
      else .ok (r, now != 0) := by
  have mode : modeOfByte r.mode.code = some r.mode := by cases r.mode <;> rfl
  have bytes : r.bytes ++ [now] = [r.mode.code, byteOf r.tickSelect, byteOf r.periodTicks, byteOf (r.periodTicks / 256),
      byteOf r.share, byteOf (r.share / 256), byteOf r.floor, byteOf (r.floor / 256), byteOf r.weight,
      byteOf (r.weight / 256), now] := rfl
  rw [bytes]
  simp only [parsePacing, mode, toNat_byteOf tick, num2_le2 period, num2_le2 share, num2_le2 floor, num2_le2 weight]

/-- A pacing record whose mode byte is no mode (R178). -/
theorem parsePacing_of_mode {mode : Byte} (h : mode.toNat = 0 ∨ 3 < mode.toNat) {rest : List Byte}
    (length : rest.length = 10) : parsePacing (mode :: rest) = .error .range := by
  have none_ : modeOfByte mode = none := by
    rw [modeOfByte, if_neg (by omega), if_neg (by omega), if_neg (by omega)]
  match rest, length with
  | [_, _, _, _, _, _, _, _, _, _], _ => simp only [parsePacing, none_]

/-- A policy record of its bytes, checked: FORMAT before RANGE (R162). -/
theorem parsePolicy_bytes (x : Policy) (af as fill : Byte) (threshold : x.failThreshold < 256)
    (timeout : x.driveTimeout < 65536) (retry : x.retryLimit < 256) (settle : x.settleTime < 65536)
    (depth : x.sweepDepth < 256) :
    parsePolicy ([af, byteOf x.failThreshold] ++ le2 x.driveTimeout ++ [byteOf x.retryLimit, as] ++ le2 x.settleTime ++
        [fill, byteOf x.sweepDepth]) =
      if 1 < af.toNat ∨ 1 < as.toNat ∨ 1 < fill.toNat then .error .format
      else if x.failThreshold = 0 ∨ 15 < x.failThreshold ∨ x.driveTimeout = 0 ∨ 255 < x.driveTimeout ∨ 3 < x.retryLimit
          ∨ 255 < x.settleTime ∨ x.sweepDepth = 0 ∨ 8 < x.sweepDepth then .error .range
      else .ok { x with autoFail := af == 1, autoStart := as == 1, aheadFill := fill == 1 } := by
  have bytes : [af, byteOf x.failThreshold] ++ le2 x.driveTimeout ++ [byteOf x.retryLimit, as] ++ le2 x.settleTime ++
      [fill, byteOf x.sweepDepth] = [af, byteOf x.failThreshold, byteOf x.driveTimeout, byteOf (x.driveTimeout / 256),
      byteOf x.retryLimit, as, byteOf x.settleTime, byteOf (x.settleTime / 256), fill, byteOf x.sweepDepth] := rfl
  rw [bytes]
  simp only [parsePolicy, toNat_byteOf threshold, num2_le2 timeout, toNat_byteOf retry, num2_le2 settle,
    toNat_byteOf depth]

/-! ## Notices beside a command in progress -/

variable {s t : State} {h : Header}

/-- What the transmitter chooses depends on the channel, the notices and the clock alone (R59). -/
theorem State.transmit_congr (channel : t.channel = s.channel) (notices : t.notices = s.notices) (now : t.now = s.now) :
    t.transmit = { t with channel := s.transmit.channel, notices := s.transmit.notices } := by
  obtain ⟨tx, queue, lost, e⟩ := t.transmit_notified
  have same : t.transmit.channel = s.transmit.channel ∧ t.transmit.notices = s.transmit.notices := by
    have gap : t.gapElapsed = s.gapElapsed := by rw [State.gapElapsed, channel, notices, now, State.gapElapsed]
    unfold State.transmit
    rw [channel, notices, gap]
    repeat' split
    exacts [⟨rfl, rfl⟩, ⟨channel, notices⟩, ⟨rfl, rfl⟩, ⟨channel, notices⟩, ⟨channel, notices⟩]
  rw [← same.1, ← same.2, e]

/-- What a formed notice changes depends on the channel, the notices and the clock alone (R148, R59). -/
theorem State.notify_congr (channel : t.channel = s.channel) (notices : t.notices = s.notices) (now : t.now = s.now)
    (n : Notice) : t.notify n = { t with channel := (s.notify n).channel, notices := (s.notify n).notices } := by
  cases s
  cases t
  dsimp only at channel notices now
  subst channel notices now
  unfold State.notify
  dsimp only
  split
  · exact State.transmit_congr rfl rfl rfl
  · rfl

@[simp] theorem State.taking_transmit : (s.taking h).transmit = s.transmit.taking h := by
  rw [State.transmit_congr (s := s) (t := s.taking h) rfl rfl rfl]
  conv_rhs => rw [State.transmit_congr (s := s) (t := s) rfl rfl rfl]
  rfl

@[simp] theorem State.taking_notify (n : Notice) : (s.taking h).notify n = (s.notify n).taking h := by
  rw [State.notify_congr (s := s) (t := s.taking h) rfl rfl rfl]
  conv_rhs => rw [State.notify_congr (s := s) (t := s) rfl rfl rfl]
  rfl

@[simp] theorem State.taking_jobTo (st : JobState) (cause : JobCause) :
    (s.taking h).jobTo st cause = (s.jobTo st cause).taking h := by
  rcases s.jobTo_cases st cause with ⟨same, e⟩ | ⟨other, e⟩
  · rcases (s.taking h).jobTo_cases st cause with ⟨-, e'⟩ | ⟨other, -⟩
    · rw [e, e']; rfl
    · exact absurd same other
  · rcases (s.taking h).jobTo_cases st cause with ⟨same, -⟩ | ⟨-, e'⟩
    · exact absurd same other
    · rw [e, e', ← State.taking_notify]; rfl

@[simp] theorem State.taking_jobIdle (cause : JobCause) : (s.taking h).jobIdle cause = (s.jobIdle cause).taking h := by
  rw [State.jobIdle, State.jobIdle, ← State.taking_jobTo]
  rfl

/-- A change of job state forms its notice (R100). -/
theorem State.jobTo_of_ne {st : JobState} (other : s.job.state ≠ st) (cause : JobCause) : s.jobTo st cause =
    ({ s with job := { s.job with state := st, cause } } : State).notify (.jobState st cause s.job.w) := by
  rcases s.jobTo_cases st cause with ⟨same, -⟩ | ⟨-, e⟩
  · exact absurd same other
  · exact e

/-- A job that goes IDLE from another state forms its notice (R99, R100). -/
theorem State.jobIdle_of_ne (other : s.job.state ≠ .idle) (cause : JobCause) : s.jobIdle cause =
    ({ s with job := { s.job with
      state := .idle, cause, target := none, spare := none, armed := none, settle := none } } : State).notify
        (.jobState .idle cause s.job.w) :=
  State.jobTo_of_ne (s := { s with job := { s.job with target := none, spare := none, armed := none, settle := none } })
    other cause

/-- Only an ARMED job has a settle timer that can be due (R35). -/
theorem State.settleDue_of_not_armed (h : s.job.state ≠ .armed) : s.settleDue = false := by
  unfold State.settleDue
  split
  · next armed _ _ => exact absurd armed h
  · rfl

/-- Outside ACTIVE no examination launches (R105). -/
theorem State.noLaunch_of_not_active (h : s.job.state ≠ .active) : s.noLaunch := fun active => absurd active h

/-- An examination that launches nothing brings nothing. -/
theorem State.noLaunch.brings (h : s.noLaunch) : Brings 1 [.examine] s s := .one h.examine

/-- A command that only writes settings, or refuses, by its parse of the parameters. -/
theorem State.Serves.done (hs : s.Serves h) {record : List Byte} (hr : record ≠ []) {u : State}
    (taken : (s.taking h).takeCommand h.tag.toNat record = (u.taking h).mgmtGood h.tag.toNat) (hu : u.Serves h) :
    receive (.manage h record) s = .next (u.mgmtDone h) := hs.answers hr taken hu

end Sys2Proof.Machine

open Sys2Proof Sys2Proof.Machine

/-- Settles O49: each record is parsed (R177, R178), and what it sets is written at once. -/
theorem loadsAndNotices : Obligations.LoadsAndNotices := by
  intro s h serves
  have refused (code : Byte) {params : List Byte} {st : Status} (e : (s.taking h).takeCommand h.tag.toNat (code :: params) =
      (s.taking h).mgmtRefuse h.tag.toNat st) : receive (.manage h (code :: params)) s = .next (s.mgmtRefused h st) :=
    serves.refuses (List.cons_ne_nil _ _) e
  refine ⟨fun m blocks count width index => ?_, fun sb c0 c1 c2 c3 width roles length => ?_,
    fun ms length small => ?_, fun mask g0 g1 => ?_, ?_⟩
  · refine serves.done (u := { s with target := { s.target with staged := m } }) (List.cons_ne_nil _ _) ?_
      (serves.of_same serves.timer rfl rfl rfl rfl rfl rfl rfl rfl)
    show State.takeLoadMap _ _ _ = _
    rw [State.takeLoadMap, parseMap_bytes blocks count width index]
    rfl
  · have all_known : roles.all roleByteKnown = true ↔ ∀ r ∈ roles, r.toNat ≤ 1 ∨ (0x10 ≤ r.toNat ∧ r.toNat ≤ 0x1F) := by
      simp only [List.all_eq_true, roleByteKnown_iff]
    constructor
    · intro unknown
      refine refused 0x03 ?_
      show State.takeLoadMap _ _ _ = _
      rw [State.takeLoadMap, parseMap_eq _ _ _ _ _ _ length, if_pos (by simpa using mt all_known.mp unknown)]
    · intro known out
      refine refused 0x03 ?_
      show State.takeLoadMap _ _ _ = _
      have range : (!(sb.toNat == 0 || stripBlocksValid sb.toNat) || decide (Config.stripeCountBound < num4 c0 c1 c2 c3)
          || decide (9 < width.toNat) || roles.any roleByteHigh) = true := by
        rcases out with blocks | count | wide | ⟨r, hr, high⟩
        · have := mt (stripBlocks_iff _).mp blocks
          simp [this]
        · simp [count]
        · simp [wide]
        · have : roleByteHigh r = true := by
            have := known r hr
            simp only [roleByteHigh, Bool.and_eq_true, decide_eq_true_eq]
            omega
          simp [List.any_eq_true.mpr ⟨r, hr, this⟩]
      rw [State.takeLoadMap, parseMap_eq _ _ _ _ _ _ length, all_known.mpr known, range]
      rfl
  · have parsed := parseMilestones_bytes length small s.stripeCount
    have outside : ms.any (fun m => m.target == 0 || decide (s.stripeCount < m.target)) = true ↔
        ∃ m ∈ ms, m.target = 0 ∨ s.stripeCount < m.target := by
      simp
    refine ⟨fun unsorted => ?_, fun sorted => ⟨fun out => ?_, fun inside => ?_⟩⟩
    · rw [if_pos (by simpa using mt (ascending_iff ms).mp unsorted)] at parsed
      refine refused 0x0F ?_
      show State.takeLoadMilestones _ _ _ = _
      rw [State.takeLoadMilestones, show (s.taking h).stripeCount = s.stripeCount from rfl, parsed]
    · rw [if_neg (by simpa using (ascending_iff ms).mpr sorted), if_pos (outside.mpr out)] at parsed
      refine refused 0x0F ?_
      show State.takeLoadMilestones _ _ _ = _
      rw [State.takeLoadMilestones, show (s.taking h).stripeCount = s.stripeCount from rfl, parsed]
    · have none_outside : ¬ ∃ m ∈ ms, m.target = 0 ∨ s.stripeCount < m.target := by
        rintro ⟨m, hm, bad⟩
        have := inside m hm
        omega
      rw [if_neg (by simpa using (ascending_iff ms).mpr sorted), if_neg (mt outside.mp none_outside)] at parsed
      refine serves.done (u := { s with notices := { s.notices with
        milestones := ms.filter (fun m => s.job.w < m.target) } }) (List.cons_ne_nil _ _) ?_
        (serves.of_same serves.timer rfl rfl rfl rfl rfl rfl rfl rfl)
      show State.takeLoadMilestones _ _ _ = _
      rw [State.takeLoadMilestones, show (s.taking h).stripeCount = s.stripeCount from rfl, parsed]
      rfl
  · refine ⟨fun out => refused 0x12 ?_, fun small gap => ?_⟩
    · show State.takeSetNotices _ _ _ = _
      rw [State.takeSetNotices, parseNotices, if_pos out]
    · refine serves.done (u := { s with notices := { s.notices with mask := mask.setWidth 6, gap := num2 g0 g1 } })
        (List.cons_ne_nil _ _) ?_ (serves.of_same serves.timer rfl rfl rfl rfl rfl rfl rfl rfl)
      show State.takeSetNotices _ _ _ = _
      have bits : BitVec.ofNat 6 mask.toNat = mask.setWidth 6 := BitVec.eq_of_toNat_eq (by simp)
      rw [State.takeSetNotices, parseNotices, if_neg (by omega), bits]
      rfl
  · exact serves.done (u := { s with
      engine := { s.engine with sticky := .none }, notices := { s.notices with lost := false }
      target := { s.target with lastError := none } }) (List.cons_ne_nil _ _) rfl
      (serves.of_same serves.timer rfl rfl rfl rfl rfl rfl rfl rfl)

/-- Settles O50: each record is parsed (R178); a period end and an examination follow where the command brings them. -/
theorem setPacingAndPolicy : Obligations.SetPacingAndPolicy := by
  intro s h serves
  have refused (code : Byte) {params : List Byte} {st : Status} (e : (s.taking h).takeCommand h.tag.toNat (code :: params) =
      (s.taking h).mgmtRefuse h.tag.toNat st) : receive (.manage h (code :: params)) s = .next (s.mgmtRefused h st) :=
    serves.refuses (List.cons_ne_nil _ _) e
  refine ⟨fun r now tick period share floor weight => ?_, fun mode rest bad length => refused 0x06 ?_,
    fun x af as fill threshold timeout retry settle depth => ?_⟩
  · have parsed := parsePacing_bytes r now tick period share floor weight
    intro inRange result
    refine ⟨fun out => ?_, fun inside zero => ?_, fun inside apply_ => ?_⟩
    · rw [if_pos (by simp only [inRange] at out; omega)] at parsed
      refine refused 0x06 ?_
      show State.takeSetPacing _ _ _ = _
      rw [State.takeSetPacing, parsed]
    · rw [if_neg (by simp only [inRange] at inside; omega), zero] at parsed
      refine serves.done (u := { s with pacing := { s.pacing with staged := r, stagedPending := true } })
        (List.cons_ne_nil _ _) ?_ (serves.of_same serves.timer rfl rfl rfl rfl rfl rfl rfl rfl)
      show State.takeSetPacing _ _ _ = _
      rw [State.takeSetPacing, zero, parsed]
      rfl
    · intro u quiet
      have applies : (now != 0) = true := by simpa using apply_
      rw [if_neg (by simp only [inRange] at inside; omega), applies] at parsed
      refine serves.answers_after (u := u) (t := u.taking h) (work := [.examine]) (List.cons_ne_nil _ _) ?_
        (State.noLaunch.brings (s := u.taking h) quiet) (by decide)
        (serves.of_same serves.timer rfl rfl rfl rfl rfl rfl rfl rfl)
      show State.takeSetPacing _ _ _ = _
      rw [State.takeSetPacing, parsed]
      rfl
  · show State.takeSetPacing _ _ _ = _
    rw [State.takeSetPacing, parsePacing_of_mode bad length]
  · have parsed := parsePolicy_bytes x af as fill threshold timeout retry settle depth
    intro inRange result u
    have policy (t : State) (tag : Nat) (ps : List Byte) {st : Status} (e : parsePolicy ps = .error st) :
        t.takeSetPolicy tag ps = t.mgmtRefuse tag st := by rw [State.takeSetPolicy, e]
    refine ⟨fun bad => ?_, fun a b c => ⟨fun out => ?_, fun inside stays quiet => ?_, fun inside armed off => ?_⟩⟩
    · rw [if_pos bad] at parsed
      exact refused 0x08 (policy _ _ _ parsed)
    · rw [if_neg (by omega), if_pos (by simp only [inRange] at out; omega)] at parsed
      exact refused 0x08 (policy _ _ _ parsed)
    · rw [if_neg (by omega), if_neg (by simp only [inRange] at inside; omega)] at parsed
      refine serves.answers_after (u := u) (t := u.taking h) (work := [.examine]) (List.cons_ne_nil _ _) ?_
        (State.noLaunch.brings (s := u.taking h) quiet) (by decide)
        (serves.of_same serves.timer rfl rfl rfl rfl rfl rfl rfl rfl)
      show State.takeSetPolicy _ _ _ = _
      have keeps : ¬ ((s.taking h).job.state = .armed ∧ (!(as == 1)) = true) := by
        rintro ⟨armed, off⟩
        rcases stays with other | on
        · exact other armed
        · simp [on] at off
      rw [State.takeSetPolicy, parsed]
      simp only [if_neg keeps]
      rfl
    · rw [if_neg (by omega), if_neg (by simp only [inRange] at inside; omega)] at parsed
      have stops : (s.taking h).job.state = .armed ∧ (!(as == 1)) = true := ⟨armed, by simp [off]⟩
      have armed' : u.job.state ≠ .idle := by rw [show u.job = s.job from rfl, armed]; simp
      rw [← State.jobIdle_of_ne (s := u) armed' .command]
      refine serves.answers_after (u := u.jobIdle .command) (t := (u.jobIdle .command).taking h) (work := [.examine])
        (List.cons_ne_nil _ _) ?_
        (State.noLaunch.brings (s := (u.jobIdle .command).taking h) (State.noLaunch_of_not_active ?_)) (by decide)
        (serves.of_same (State.settleDue_of_not_armed ?_) ?_ ?_ ?_ ?_ ?_ ?_ ?_ ?_)
      case refine_1 =>
        show State.takeSetPolicy _ _ _ = _
        rw [State.takeSetPolicy, parsed]
        simp only [if_pos stops]
        rw [← State.taking_jobIdle]
        rfl
      case refine_2 => rw [show ((u.jobIdle .command).taking h).job = (u.jobIdle .command).job from rfl]; simp
      all_goals simp [u]

end

section
/-! SUPPORT. TAKE_LOST (R140), and the commands that fail, restore and clear ports (R31 to R34). -/
namespace Sys2Proof.Machine

variable {s : State} {h : Header}

/-! ## TAKE_LOST (R140) -/

/-- Entries removed from a job that is not PAUSED. -/
theorem State.removeLost_of_not_paused (other : s.job.state ≠ .paused) (n : Nat) :
    s.removeLost n = { s with lost := { s.lost with entries := s.lost.entries.drop n } } := if_neg other

/-- Entries removed from a PAUSED job take it to ACTIVE (R140). -/
theorem State.removeLost_of_paused (paused : s.job.state = .paused) (n : Nat) :
    s.removeLost n = ({ s with lost := { s.lost with entries := s.lost.entries.drop n } } : State).jobTo .active .command :=
  if_pos paused

theorem State.removeLost_taking (n : Nat) : (s.taking h).removeLost n = (s.removeLost n).taking h := by
  by_cases paused : s.job.state = .paused
  · rw [State.removeLost_of_paused paused, State.removeLost_of_paused (s := s.taking h) paused, ← State.taking_jobTo]
    rfl
  · rw [State.removeLost_of_not_paused paused, State.removeLost_of_not_paused (s := s.taking h) paused]
    rfl

/-- TAKE_LOST with entries to take: they leave, and the answer names them after an examination (R140). -/
theorem State.Serves.takes_lost (hs : s.Serves h) {n : Byte} (some_ : 1 ≤ n.toNat) (few : n.toNat ≤ 8)
    (entries : s.lost.entries ≠ []) (hu : (s.removeLost n.toNat).Serves h) (quiet : (s.removeLost n.toNat).noLaunch) :
    receive (.manage h [0x11, n]) s = .next ((s.removeLost n.toNat).withMgmt h
      { status := .good, payload := .record (byteOf (s.lost.entries.take n.toNat).length ::
        (s.lost.entries.take n.toNat).flatMap LostEntry.bytes) }) := by
  have nonempty : (s.taking h).lost.entries.take n.toNat ≠ [] := by
    rw [ne_eq, List.take_eq_nil_iff, not_or]
    exact ⟨by omega, entries⟩
  refine hs.answers_after (t := (s.removeLost n.toNat).taking h) (work := [.examine]) (List.cons_ne_nil _ _) ?_
    (State.noLaunch.brings (s := (s.removeLost n.toNat).taking h) quiet) (by decide) hu
  show (s.taking h).takeTakeLost h.tag.toNat [n] = _
  simp only [State.takeTakeLost, if_neg (show ¬ (n.toNat = 0 ∨ 8 < n.toNat) by omega), if_neg nonempty,
    State.removeLost_taking]
  rfl

/-! ## Ports -/

theorem portOfByte_of_high {b : Byte} (high : 9 < b.toNat) : portOfByte b = none := dif_neg (by omega)

theorem portOfByte_of_val {b : Byte} {p : PortId} (e : p.val = b.toNat) : portOfByte b = some p := by
  have : b.toNat < 10 := e ▸ p.isLt
  rw [portOfByte, dif_pos this]
  exact congrArg some (Fin.ext e.symm)

/-- A port all of whose entries are outstanding has none waiting (R30). -/
theorem State.emptyWaiting_of_none {p : PortId} (all : ∀ e ∈ (s.port p).list, e.issue.isSome = true) :
    s.emptyWaiting p = ([], s) := by
  have : (s.port p).list.find? (fun e => e.issue.isNone) = none := by
    rw [List.find?_eq_none]
    intro e he
    simp [Option.isSome_iff_ne_none.mp (all e he)]
  simp only [State.emptyWaiting, this]

theorem State.emptyDeferred_of_none {p : PortId} (none_ : (s.port p).deferred = []) : s.emptyDeferred p = ([], s) := by
  simp only [State.emptyDeferred, none_]

theorem State.emptyList_of_none {p : PortId} (none_ : (s.port p).list = []) : s.emptyList p = ([], s) := by
  simp only [State.emptyList, none_]

/-- The port that carries a member's role has that index (R7). -/
theorem State.role_of_portOf {m : Nat} {p : PortId} (port : s.portOf m = some p) : (s.port p).role = .member m := by
  simpa using List.find?_some port

theorem State.failingMember_of_portOf {m : Nat} {p : PortId} (port : s.portOf m = some p) :
    s.failingMember p = some m := by
  rw [State.failingMember, State.role_of_portOf port]

/-- A member's port that fails by command or by errors: its health, its notice, then the sequencer and the treatment of
its list (R30, R32). -/
theorem State.failPort_of_member {m : Nat} {p : PortId} (port : s.portOf m = some p) {reason : FailReason}
    (linked : reason ≠ .link) : s.failPort p reason = ([.sequencerFailure p, .emptyWaiting p, .emptyDeferred p],
      (s.setPort p { s.port p with health := .failed }).notify (.memberFailed p m reason)) := by
  simp only [State.failPort, State.failingMember_of_portOf port, if_neg linked]

/-- A member's failure in a HALTED job, or one that is not bound and with AutoStart off, brings no transition (R35, R116). -/
theorem State.sequencerFailure_quiet {p : PortId} (mark : (s.port p).bound = false)
    (quiet : (s.job.state = .idle ∨ s.job.state = .done) ∧ s.target.policy.autoStart = false ∨ s.job.state = .halted)
    (timer : s.settleDue = false) : s.sequencerFailure p = ([], s) := by
  rw [State.sequencerFailure, if_neg (by simp [mark])]
  split
  · rfl
  · rcases quiet with ⟨idle, off⟩ | halted
    · have arm : s.arm = ([], s) := by
        have : s.armIfDue = s := by
          rcases s.armIfDue_cases with e | ⟨_, -, on, -⟩
          · exact e
          · rw [off] at on; cases on
        simp [State.arm, this, timer]
      rcases idle with idle | done
      · simp only [idle, arm]
      · simp only [done, arm]
    · simp only [halted]

/-- Which port a member has depends on the roles alone (R7). -/
theorem State.portOf_congr {t : State} (roles : ∀ p, (t.port p).role = (s.port p).role) (m : Nat) :
    t.portOf m = s.portOf m := by
  simp only [State.portOf, roles]

@[simp] theorem State.notify_port (n : Notice) (p : PortId) : (s.notify n).port p = s.port p :=
  State.port_congr (s.notify_ports n) p

/-- FAIL_MEMBER of an ONLINE port, given what the sequencer then does (R31, R32, R168). -/
theorem State.Serves.fails_member (hs : s.Serves h) {b : Byte} {p : PortId} (member : b.toNat < s.width)
    (port : s.portOf b.toNat = some p) (online : (s.port p).health = .online)
    {u : State} {k : Nat} (sequencer : Brings k [.sequencerFailure p]
      (((s.setPort p { s.port p with health := .failed }).notify (.memberFailed p b.toNat .command)).taking h) (u.taking h))
    (hk : k ≤ 100) (all : ∀ e ∈ (u.port p).list, e.issue.isSome = true) (none_ : (u.port p).deferred = [])
    (hu : u.Serves h) : receive (.manage h [0x0C, b]) s = .next (u.mgmtDone h) := by
  have treated : Brings 2 [.emptyWaiting p, .emptyDeferred p] (u.taking h) (u.taking h) :=
    .step (State.emptyWaiting_of_none (s := u.taking h) all) (.one (State.emptyDeferred_of_none (s := u.taking h) none_))
  have taken : (s.taking h).takeFailMember h.tag.toNat [b] =
      (answerAfter [.sequencerFailure p, .emptyWaiting p, .emptyDeferred p] h.tag.toNat (.plain .good),
        ((s.setPort p { s.port p with health := .failed }).notify (.memberFailed p b.toNat .command)).taking h) := by
    have member' : ¬ (s.taking h).width ≤ b.toNat := not_le.mpr member
    have port' : (s.taking h).portOf b.toNat = some p := port
    have online' : ((s.taking h).port p).health = .online := online
    simp only [State.takeFailMember, if_neg member', port', online', if_true,
      State.failPort_of_member port' (show FailReason.command ≠ .link by simp)]
    rw [← State.taking_notify]
    rfl
  exact hs.answers_after (List.cons_ne_nil _ _) taken (sequencer.append treated)
    (show k + 2 + 5 < 65536 by omega) hu

/-- What RESTORE_PORT makes of a port (R33). -/
theorem Port.restored_eq (x : Port) : x.restored = { x with errors := 0, health :=
    match x.health, x.link, x.role with
      | .failed, true, _ => Health.online
      | .failed, false, .member _ => .failed
      | .failed, false, _ => .absent
      | other, _, _ => other } := by
  unfold Port.restored Port.memberIndex
  congr 1
  cases x.health <;> cases x.link <;> cases x.role <;> rfl

theorem State.jobHolds_iff {p : PortId} : s.jobHolds p = true ↔ s.job.state.bound = true ∧
    ((s.port p).bound = true ∨ ∃ t, s.job.target = some t ∧ s.portOf t = some p) := by
  rw [State.jobHolds, Bool.and_eq_true, Bool.or_eq_true]
  cases s.job.target <;> simp

theorem State.armedRestored_iff : s.armedRestored = true ↔ s.job.state = .armed ∧ ∃ m, s.job.armed = some m ∧
    ∃ q, s.portOf m = some q ∧ (s.port q).health ≠ .failed := by
  unfold State.armedRestored
  split
  · next m armed hm =>
    rw [armed, hm]
    cases hq : s.portOf m <;> simp [hq]
  · next other =>
    constructor
    · intro e; cases e
    · rintro ⟨armed, m, hm, -⟩
      exact absurd hm (other m armed)

end Sys2Proof.Machine

open Sys2Proof Sys2Proof.Machine

/-- Settles O53, by the job's state and whether an entry is there to take (R140). -/
theorem takeLost : Obligations.TakeLost := by
  intro s h n serves taken answer left result
  refine ⟨fun out => ?_, fun some_ few => ⟨fun empty => ?_, fun other quiet => ?_, fun entries paused quiet => ?_⟩⟩
  · exact serves.refuses (List.cons_ne_nil _ _) (if_pos out)
  · refine serves.answers (u := s) (List.cons_ne_nil _ _) ?_ serves
    show (s.taking h).takeTakeLost h.tag.toNat [n] = _
    have none_ : (s.taking h).lost.entries.take n.toNat = [] := by rw [show (s.taking h).lost = s.lost from rfl, empty, List.take_nil]
    simp only [State.takeTakeLost, if_neg (show ¬ (n.toNat = 0 ∨ 8 < n.toNat) by omega), none_, if_true]
    rfl
  · by_cases entries : s.lost.entries = []
    · have taken_nil : taken = [] := by rw [show taken = s.lost.entries.take n.toNat from rfl, entries, List.take_nil]
      have left_eq : left = s := by
        show { s with lost := { s.lost with entries := s.lost.entries.drop n.toNat } } = s
        rw [entries, List.drop_nil, ← entries]
      rw [left_eq]
      refine serves.answers (u := s) (List.cons_ne_nil _ _) ?_ serves
      show (s.taking h).takeTakeLost h.tag.toNat [n] = _
      have none_ : (s.taking h).lost.entries.take n.toNat = [] := taken_nil
      simp only [State.takeTakeLost, if_neg (show ¬ (n.toNat = 0 ∨ 8 < n.toNat) by omega), none_, if_true]
      rw [show answer = { status := .good, payload := .record (byteOf taken.length :: taken.flatMap LostEntry.bytes) } from
        rfl, taken_nil]
    · have removed := State.removeLost_of_not_paused other n.toNat
      have result := serves.takes_lost some_ few entries
      rw [removed] at result
      exact result (serves.of_same serves.timer rfl rfl rfl rfl rfl rfl rfl rfl) quiet
  · have removed := State.removeLost_of_paused paused n.toNat
    have other : left.job.state ≠ .active := by rw [show left.job = s.job from rfl, paused]; simp
    have result := serves.takes_lost some_ few entries
    rw [removed] at result
    rw [← State.jobTo_of_ne (s := left) other .command]
    refine result (serves.of_same (State.settleDue_of_not_armed ?_) ?_ ?_ ?_ ?_ ?_ ?_ ?_ ?_) ?_
    case refine_1 => simp
    case refine_10 =>
      intro active
      have := quiet rfl
      simpa [State.width, State.stripeCount] using this
    all_goals simp

/-- Settles O52, port by port (R31, R33, R34). -/
theorem portCommands : Obligations.PortCommands := by
  intro s h b serves
  have refused (code : Byte) {st : Status} (e : (s.taking h).takeCommand h.tag.toNat [code, b] =
      (s.taking h).mgmtRefuse h.tag.toNat st) : receive (.manage h [code, b]) s = .next (s.mgmtRefused h st) :=
    serves.refuses (List.cons_ne_nil _ _) e
  refine ⟨fun absent => refused 0x0C (if_pos absent), fun p member port => ⟨fun other => ?_, fun online mark all none_ quiet => ?_⟩,
    fun high => ⟨refused 0x0D ?_, refused 0x0E ?_⟩, fun p hp => ?_⟩
  · have member' : ¬ (s.taking h).width ≤ b.toNat := not_le.mpr member
    have port' : (s.taking h).portOf b.toNat = some p := port
    have other' : ((s.taking h).port p).health ≠ .online := other
    refine serves.done (u := s) (List.cons_ne_nil _ _) ?_ serves
    show (s.taking h).takeFailMember h.tag.toNat [b] = _
    simp only [State.takeFailMember, if_neg member', port', if_neg other']
  · let u := (s.setPort p { s.port p with health := .failed }).notify (.memberFailed p b.toNat .command)
    have port_eq : u.port p = { s.port p with health := .failed } := by
      rw [State.notify_port, State.port_setPort_self]
    have timer : u.settleDue = false := by
      have : u.settleDue = s.settleDue := by
        simp only [State.settleDue, u, State.notify_job, State.notify_now, State.setPort_job, State.setPort_now]
      rw [this]; exact serves.timer
    have quiet' : ((u.taking h).job.state = .idle ∨ (u.taking h).job.state = .done) ∧
        (u.taking h).target.policy.autoStart = false ∨ (u.taking h).job.state = .halted := by
      simpa [u, State.taking] using quiet
    have mark' : ((u.taking h).port p).bound = false := by
      show (u.port p).bound = false
      rw [port_eq]; exact mark
    refine serves.fails_member (u := u) member port online (.one (State.sequencerFailure_quiet mark' quiet' timer))
      (by decide) (by rw [port_eq]; exact all) (by rw [port_eq]; exact none_) (serves.of_same timer ?_ ?_ ?_ ?_ ?_ ?_ ?_ ?_)
    all_goals simp [u]
  · show (s.taking h).takeRestorePort h.tag.toNat [b] = _
    simp only [State.takeRestorePort, portOfByte_of_high high]
  · show (s.taking h).takeClearHealth h.tag.toNat [b] = _
    simp only [State.takeClearHealth, portOfByte_of_high high]
  · intro held health restored disarms
    have parsed := portOfByte_of_val hp
    have restored_eq : (s.taking h).setPort p ((s.taking h).port p).restored = restored.taking h := by
      rw [Port.restored_eq]; rfl
    have holds : (s.taking h).jobHolds p = true ↔ held := State.jobHolds_iff (s := s.taking h)
    have rearms : (restored.taking h).armedRestored = true ↔ disarms := by
      have roles (q : PortId) : ((restored.taking h).port q).role = (s.port q).role := by
        show (restored.port q).role = _
        rw [State.port_setPort]
        split
        · next e => rw [e]
        · rfl
      rw [State.armedRestored_iff]
      simp only [State.portOf_congr roles]
      exact Iff.rfl
    have taken (free : ¬ held) : (s.taking h).takeRestorePort h.tag.toNat [b] =
        (if (restored.taking h).armedRestored then (restored.taking h).jobIdle .command else restored.taking h).mgmtGood
          h.tag.toNat := by
      simp only [State.takeRestorePort, parsed, mt holds.mp free, Bool.false_eq_true, if_false, restored_eq]
    refine ⟨fun bound => refused 0x0D ?_, fun free stays => ?_, fun free goes => ?_, ?_⟩
    · show (s.taking h).takeRestorePort h.tag.toNat [b] = _
      simp only [State.takeRestorePort, parsed, holds.mpr bound, if_true]
    · refine serves.done (u := restored) (List.cons_ne_nil _ _) ?_
        (serves.of_same serves.timer rfl rfl rfl rfl rfl rfl rfl rfl)
      exact (taken free).trans (by rw [if_neg (mt rearms.mp stays)])
    · have other : restored.job.state ≠ .idle := by rw [show restored.job = s.job from rfl, goes.1]; simp
      refine (serves.done (u := restored.jobIdle .command) (List.cons_ne_nil _ _) ?_
        (serves.of_same (State.settleDue_of_not_armed ?_) ?_ ?_ ?_ ?_ ?_ ?_ ?_ ?_)).trans
          (congrArg (fun u : State => (.next (u.mgmtDone h) : Result)) (State.jobIdle_of_ne other .command))
      case refine_1 => exact (taken free).trans (by rw [if_pos (rearms.mpr goes), State.taking_jobIdle])
      all_goals simp [restored]
    · refine serves.done (u := s.setPort p { s.port p with errors := 0 }) (List.cons_ne_nil _ _) ?_
        (serves.of_same serves.timer rfl rfl rfl rfl rfl rfl rfl rfl)
      show (s.taking h).takeClearHealth h.tag.toNat [b] = _
      simp only [State.takeClearHealth, parsed]
      rfl

end

section
/-! SUPPORT. The transmitter's choice, milestones, ticks and period ends (R59, R123, R124, R146, R153). -/
namespace Sys2Proof.Machine

variable {s : State}

/-! ## Milestones (R146) -/

/-- In a table that ascends, the entries at or below W stand first. -/
theorem milestones_split (w : Nat) {ms : List Milestone} (h : ms.Pairwise (fun a b => a.target < b.target)) :
    ms.takeWhile (fun m => m.target ≤ w) = ms.filter (fun m => m.target ≤ w) ∧
    ms.dropWhile (fun m => m.target ≤ w) = ms.filter (fun m => w < m.target) := by
  induction ms with
  | nil => exact ⟨rfl, rfl⟩
  | cons m ms ih =>
    obtain ⟨above, rest⟩ := List.pairwise_cons.mp h
    by_cases due : m.target ≤ w
    · have stays : ¬ w < m.target := not_lt.mpr due
      simp [due, stays, ih rest]
    · have later (x : Milestone) (hx : x ∈ ms) : w < x.target := by have := above x hx; omega
      have none_ : ms.filter (fun m => m.target ≤ w) = [] := by
        rw [List.filter_eq_nil_iff]
        intro x hx
        simp [later x hx]
      have all : ms.filter (fun m => w < m.target) = ms := by
        rw [List.filter_eq_self]
        intro x hx
        simp [later x hx]
      simp [due, none_, all, not_le.mp due]

/-! ## The transmitter (R59) -/

theorem State.gapElapsed_iff :
    s.gapElapsed = true ↔ ∀ t, s.channel.lastNotice = some t → t + s.notices.gap * 1000 ≤ s.now := by
  unfold State.gapElapsed
  cases s.channel.lastNotice <;> simp

/-- A transmitter that is busy, or whose link is down, begins nothing. -/
theorem State.transmit_of_blocked (h : s.channel.tx ≠ .idle ∨ s.channel.up = false) : s.transmit = s := by
  rw [State.transmit, if_neg]
  rintro ⟨idle, up⟩
  rcases h with busy | down
  · exact busy idle
  · rw [down] at up; cases up

/-- A free transmitter begins the oldest response. -/
theorem State.transmit_response (idle : s.channel.tx = .idle) (up : s.channel.up = true)
    (waits : s.channel.responses ≠ []) : s.transmit = { s with channel := { s.channel with tx := .response } } := by
  rw [State.transmit, if_pos ⟨idle, up⟩, if_pos waits]

/-- A free transmitter without a response begins the head notice once the gap has elapsed. -/
theorem State.transmit_notice {n : Notice} {rest : List Notice} (idle : s.channel.tx = .idle)
    (up : s.channel.up = true) (none_ : s.channel.responses = []) (queue : s.notices.queue = n :: rest)
    (gap : s.gapElapsed = true) : s.transmit =
      { s with channel := { s.channel with tx := .notice n }, notices := { s.notices with queue := rest } } := by
  simp only [State.transmit, idle, up, none_, queue, gap, and_self, if_true, ne_eq, not_true, if_false]

/-- What the transmitter has begun early it does not choose again later, when it would have chosen the same (R59). -/
theorem State.transmit_later (up : s.channel.up = true) {n : Nat} (later : s.now ≤ n) (x : Pacing) :
    ({ s.transmit with now := n, pacing := x } : State).transmit = ({ s with now := n, pacing := x } : State).transmit := by
  rcases s.transmit_cases up with ⟨-, e⟩ | ⟨idle, waits, e⟩ | ⟨idle, none_, gap, m, rest, queue, e⟩ | ⟨-, e⟩
  · rw [e]
  · rw [e, State.transmit_response (s := { s with now := n, pacing := x }) idle up waits]
    exact State.transmit_of_blocked (.inl (by simp))
  · have gap' : ({ s with now := n, pacing := x } : State).gapElapsed = true := by
      rw [State.gapElapsed_iff] at gap ⊢
      exact fun t ht => (gap t ht).trans later
    rw [e, State.transmit_notice (s := { s with now := n, pacing := x }) idle up none_ queue gap']
    exact State.transmit_of_blocked (.inl (by simp))
  · rw [e]

/-- Once the transmitter has chosen, a bridge at rest is so still. -/
theorem State.Rests.transmit (h : s.Rests) : s.transmit.Rests :=
  h.of_same (by simp only [State.settleDue, State.transmit_job, State.transmit_now]; exact h.timer)
    (by simp only [State.commitReady, State.drained, State.transmit_target, State.transmit_table]; exact h.commit)

/-- A response frame sent in full, but for the bridge reset that the answer of a RESET_BRIDGE brings (R58). -/
theorem State.Rests.exec_responseSent {u : State} (h : s.Rests) (noCommit : s.committing = false)
    (tx : s.channel.tx = .response) (sent : s.responseSent = u) (up : u.channel.up = s.channel.up)
    (link : u.channel.linkFrames = s.channel.linkFrames) (ctxs : u.engine.ctxs = s.engine.ctxs)
    (owed : u.engine.owed = s.engine.owed) (job : u.job = s.job) (now : u.now = s.now)
    (target : u.target = s.target) : exec .responseFrameSent s = .next u.transmit := by
  have timer : u.settleDue = false := by rw [State.settleDue, job, now]; exact h.timer
  have commit : u.commitReady = none :=
    State.commitReady_of_not_committing (by rw [State.committing, target]; exact noCommit)
  show execResponseFrameSent s = _
  rw [execResponseFrameSent, if_pos tx, sent]
  exact (Brings.nil u).cascade (owed.trans h.owed) (by decide) (h.of_same timer commit up link ctxs owed)

/-! ## Ticks and period ends (R123, R124) -/

theorem State.settleDue_iff : s.settleDue = true ↔ s.job.state = .armed ∧ ∃ due, s.job.settle = some due ∧
    s.job.armed.isSome = true ∧ due ≤ s.now := by
  unfold State.settleDue
  split
  · next due m armed settle member => simp [armed, settle, member]
  · next other =>
    simp only [Bool.false_eq_true, false_iff]
    rintro ⟨armed, due, settle, member, -⟩
    obtain ⟨m, hm⟩ := Option.isSome_iff_exists.mp member
    exact other due m armed settle hm

/-- The state a bridge at rest is in after its own command moved its clock and its pacing timer. -/
theorem State.Rests.timed (h : s.Rests) {n : Nat} (timer : (s.advanceTo n).settleDue = false) (x : Pacing) :
    ({ s with now := max s.now n, pacing := x } : State).Rests :=
  h.of_same timer h.commit rfl rfl rfl rfl

/-- The period end at a moment, field by field (R124). -/
def State.ended_period (s : State) (due : Nat) : State :=
  let r := if s.pacing.stagedPending then s.pacing.staged else s.pacing.inForce
  { s with
    now := max s.now due
    pacing := { s.pacing with
      inForce := r, stagedPending := false, budget := r.budget s.pacing.fg
      credit := r.budget s.pacing.fg + min s.pacing.credit (s.width - 1)
      fg := 0, ticks := 0, tickDue := due + 16 * 2 ^ r.tickSelect } }

/-- A period end of a job that is not ACTIVE launches nothing (R105, R124). -/
theorem State.Rests.period_end (h : s.Rests) (other : s.job.state ≠ .active) {due : Nat}
    (timer : (s.advanceTo due).settleDue = false) :
    cascade [.examine] ((s.advanceTo due).periodEnd due) = .next (s.ended_period due).transmit := by
  have quiet : ((s.advanceTo due).periodEnd due).noLaunch := State.noLaunch_of_not_active other
  exact quiet.brings.cascade h.owed (by decide) (h.timed timer _)

theorem State.Rests.exec_periodEnd (h : s.Rests) (other : s.job.state ≠ .active)
    (timer : (s.advanceTo s.pacing.periodDue).settleDue = false) :
    exec .periodEnd s = .next (s.ended_period s.pacing.periodDue).transmit := h.period_end other timer

/-- The tick that ends the period. -/
theorem State.Rests.exec_last_tick (h : s.Rests) (other : s.job.state ≠ .active)
    (timer : (s.advanceTo s.pacing.tickDue).settleDue = false)
    (last : s.pacing.inForce.periodTicks ≤ s.pacing.ticks + 1) :
    exec .tick s = .next (s.ended_period s.pacing.tickDue).transmit := by
  show cascade s.tickExpiry.1 s.tickExpiry.2 = _
  rw [State.tickExpiry, if_neg (not_lt.mpr last)]
  exact h.period_end other timer

/-- The state after any other tick (R123). -/
def State.ticked (s : State) : State :=
  { s with
    now := max s.now s.pacing.tickDue
    pacing := { s.pacing with
      ticks := s.pacing.ticks + 1, tickDue := s.pacing.tickDue + 16 * 2 ^ s.pacing.inForce.tickSelect } }

theorem State.Rests.exec_tick (h : s.Rests) (timer : (s.advanceTo s.pacing.tickDue).settleDue = false)
    (more : s.pacing.ticks + 1 < s.pacing.inForce.periodTicks) : exec .tick s = .next s.ticked.transmit := by
  show cascade s.tickExpiry.1 s.tickExpiry.2 = _
  rw [State.tickExpiry, if_pos more]
  exact (Brings.nil s.ticked).cascade h.owed (by decide) (h.timed timer _)

/-- The moment a period ends does not change with the ticks that come before (R123). -/
theorem Pacing.periodDue_ticked (x : Pacing) (more : x.ticks + 1 < x.inForce.periodTicks) :
    ({ x with ticks := x.ticks + 1, tickDue := x.tickDue + 16 * 2 ^ x.inForce.tickSelect } : Pacing).periodDue =
      x.periodDue := by
  obtain ⟨k, hk⟩ : ∃ k, x.inForce.periodTicks - x.ticks - 1 = k + 1 := ⟨x.inForce.periodTicks - x.ticks - 2, by omega⟩
  have hk' : x.inForce.periodTicks - (x.ticks + 1) - 1 = k := by omega
  simp only [Pacing.periodDue, hk, hk', PacingRecord.tickLength, Nat.succ_mul]
  omega

theorem Pacing.tickDue_le_periodDue (x : Pacing) : x.tickDue ≤ x.periodDue := Nat.le_add_right _ _

/-- A settle timer that is not due was not due before (R35). -/
theorem State.settleDue_mono {t : State} (job : t.job = s.job) (le : s.now ≤ t.now) (h : t.settleDue = false) :
    s.settleDue = false := by
  rw [Bool.eq_false_iff, ne_eq, State.settleDue_iff] at h ⊢
  rintro ⟨armed, due, settle, member, reached⟩
  exact h ⟨job ▸ armed, due, job ▸ settle, job ▸ member, reached.trans le⟩

/-- The tick under way falls due no later than the period. -/
theorem State.tickDue_soon (timer : (s.advanceTo s.pacing.periodDue).settleDue = false) :
    (s.advanceTo s.pacing.tickDue).settleDue = false :=
  State.settleDue_mono (t := s.advanceTo s.pacing.periodDue) rfl
    (max_le_max le_rfl s.pacing.tickDue_le_periodDue) timer

/-- After a tick that does not end the period, its end brings no settle timer that it did not bring before. -/
theorem State.periodDue_ticked (timer : (s.advanceTo s.pacing.periodDue).settleDue = false)
    (more : s.pacing.ticks + 1 < s.pacing.inForce.periodTicks) :
    s.ticked.transmit.pacing.periodDue = s.pacing.periodDue ∧
    (s.ticked.transmit.advanceTo s.pacing.periodDue).settleDue = false := by
  have := s.pacing.tickDue_le_periodDue
  have job : s.ticked.transmit.job = s.job := State.transmit_job _
  have now : s.ticked.transmit.now = max s.now s.pacing.tickDue := State.transmit_now _
  refine ⟨by rw [State.transmit_pacing]; exact s.pacing.periodDue_ticked more,
    State.settleDue_mono (t := s.advanceTo s.pacing.periodDue) job.symm ?_ timer⟩
  show max s.ticked.transmit.now s.pacing.periodDue ≤ max s.now s.pacing.periodDue
  omega

/-- The last tick of a period falls due when the period does (R123). -/
theorem Pacing.periodDue_last {x : Pacing} (last : x.inForce.periodTicks ≤ x.ticks + 1) : x.periodDue = x.tickDue := by
  rw [Pacing.periodDue, show x.inForce.periodTicks - x.ticks - 1 = 0 by omega, Nat.zero_mul, Nat.add_zero]

/-- The period end after one more tick is the period end without it. -/
theorem State.Rests.periodEnd_ticked (h : s.Rests) (other : s.job.state ≠ .active)
    (timer : (s.advanceTo s.pacing.periodDue).settleDue = false)
    (more : s.pacing.ticks + 1 < s.pacing.inForce.periodTicks) :
    exec .periodEnd s.ticked.transmit = exec .periodEnd s := by
  have soon := State.tickDue_soon timer
  obtain ⟨due, timer'⟩ := State.periodDue_ticked timer more
  have rests : s.ticked.transmit.Rests := State.Rests.transmit (h.timed soon _)
  have other' : s.ticked.transmit.job.state ≠ .active := by rw [State.transmit_job]; exact other
  have clock : max (max s.now s.pacing.tickDue) s.pacing.periodDue = max s.now s.pacing.periodDue := by
    have := s.pacing.tickDue_le_periodDue
    omega
  rw [h.exec_periodEnd other timer, rests.exec_periodEnd other' (by rw [due]; exact timer'), due]
  have same : s.ticked.transmit.ended_period s.pacing.periodDue =
      { s.ticked.transmit with now := max s.now s.pacing.periodDue
                               pacing := (s.ended_period s.pacing.periodDue).pacing } := by
    simp only [State.ended_period, State.transmit_pacing, State.transmit_now, State.width, State.transmit_target]
    rw [← clock]
    rfl
  have later : s.ticked.now ≤ max s.now s.pacing.periodDue := clock ▸ le_max_left _ _
  rw [same, State.transmit_later (s := s.ticked) h.up later]
  rfl

/-- The ticks left in a period, however many, come to the period end (R123). -/
theorem State.Rests.exec_ticks (n : Nat) {s : State} (h : s.Rests) (other : s.job.state ≠ .active)
    (timer : (s.advanceTo s.pacing.periodDue).settleDue = false)
    (left : s.pacing.inForce.periodTicks = s.pacing.ticks + n + 1) :
    execAll (List.replicate (n + 1) .tick) s = exec .periodEnd s := by
  have soon := State.tickDue_soon timer
  induction n generalizing s with
  | zero =>
    have last : s.pacing.inForce.periodTicks ≤ s.pacing.ticks + 1 := by omega
    have due := Pacing.periodDue_last last
    show execAll [.tick] s = _
    rw [execAll, h.exec_last_tick other soon last, h.exec_periodEnd other timer, due]
    rfl
  | succ n ih =>
    have more : s.pacing.ticks + 1 < s.pacing.inForce.periodTicks := by omega
    obtain ⟨due, timer'⟩ := State.periodDue_ticked timer more
    have rests : s.ticked.transmit.Rests := State.Rests.transmit (h.timed soon _)
    have other' : s.ticked.transmit.job.state ≠ .active := by rw [State.transmit_job]; exact other
    have left' : s.ticked.transmit.pacing.inForce.periodTicks = s.ticked.transmit.pacing.ticks + n + 1 := by
      rw [State.transmit_pacing]
      show s.pacing.inForce.periodTicks = s.pacing.ticks + 1 + n + 1
      omega
    rw [← due] at timer'
    rw [List.replicate_succ, execAll, h.exec_tick soon more]
    exact (ih rests other' timer' left' (State.tickDue_soon timer')).trans (h.periodEnd_ticked other timer more)

end Sys2Proof.Machine

open Sys2Proof Sys2Proof.Machine

/-- Settles O45: in an ascending table the milestones that W reaches are the first ones (R146). -/
theorem milestonesFire : Obligations.MilestonesFire := by
  intro s w ascending
  obtain ⟨due, rest⟩ := milestones_split w ascending
  rw [State.fireMilestones, due, rest]

/-- Settles O42, by the examination that finds no ACTIVE job (R105, R123, R124). -/
theorem periodEnd : Obligations.PeriodEnd := by
  intro s rests other r ended last
  exact ⟨fun timer => rests.exec_periodEnd other timer, fun timer =>
    ⟨fun final => rests.exec_last_tick other timer final, fun more => rests.exec_tick timer more⟩⟩

/-- Settles O43, by induction on the ticks left (R123). -/
theorem ticksMakePeriod : Obligations.TicksMakePeriod := by
  intro s rests other timer more
  obtain ⟨n, hn⟩ : ∃ n, s.pacing.inForce.periodTicks = s.pacing.ticks + n + 1 :=
    ⟨s.pacing.inForce.periodTicks - s.pacing.ticks - 1, by omega⟩
  rw [show s.pacing.inForce.periodTicks - s.pacing.ticks = n + 1 by omega]
  exact State.Rests.exec_ticks n rests other timer hn

/-- Settles O46: the choice (R59), the frames sent (R58, R153, R171) and the gap. -/
theorem transmitterChooses : Obligations.TransmitterChooses := by
  refine ⟨fun s => ⟨State.transmit_of_blocked, fun idle up => ⟨State.transmit_response idle up,
    fun n rest none_ queue gap => State.transmit_notice idle up none_ queue (State.gapElapsed_iff.mpr gap),
    fun none_ quiet => s.transmit_of_rests fun _ => ⟨none_, quiet.imp id fun not_yet => ?_⟩⟩⟩,
    fun s r rest rests noCommit tx responses => ⟨fun tag status e => ?_, fun tag e other => ?_, fun tag e resets => ?_⟩,
    fun s other => if_neg other, fun s n rests tx => ?_, fun s none_ => ?_, fun s rests => ⟨fun t ht timer => ?_, fun none_ => ?_⟩⟩
  · exact Bool.eq_false_iff.mpr fun gap => not_yet (State.gapElapsed_iff.mp gap)
  · have next : s.responseSent = { s with channel := { s.channel with responses := rest, tx := .idle } } := by
      simp only [State.responseSent, tx, responses, e]
    exact rests.exec_responseSent noCommit tx next rfl rfl rfl rfl rfl rfl rfl
  · have next : s.responseSent = { s with
        channel := { s.channel with responses := rest, tx := .idle }, table := s.table.filter (fun e => e.tag ≠ tag) } := by
      simp only [State.responseSent, tx, responses, e, if_neg other]
      congr 2
      funext x
      rw [Bool.eq_iff_iff]
      simp
    exact rests.exec_responseSent noCommit tx next rfl rfl rfl rfl rfl rfl rfl
  · have next : s.responseSent = s.bridgeReset := by
      simp only [State.responseSent, tx, responses, e, if_pos resets]
      rfl
    show execResponseFrameSent s = execBridgeReset s
    rw [execResponseFrameSent, if_pos tx, next, execBridgeReset]
  · have next : s.noticeSent = { s with channel := { s.channel with tx := .idle, lastNotice := some s.now } } := by
      simp only [State.noticeSent, tx]
    have rests' : s.noticeSent.Rests := by
      rw [next]
      exact rests.of_same rests.timer rests.commit rfl rfl rfl rfl
    have owed : s.noticeSent.engine.owed = none := rests'.owed
    show execNoticeFrameSent s = _
    simp only [execNoticeFrameSent, tx]
    rw [(Brings.nil s.noticeSent).cascade owed (by decide) rests', next]
  · show execNoticeFrameSent s = _
    unfold execNoticeFrameSent
    split
    · next n tx => exact absurd tx (none_ n)
    all_goals rfl
  · have next : s.gapElapses = s.advanceTo (t + s.notices.gap * 1000) := by
      simp only [State.gapElapses, ht]
    show execNoticeGapElapsed s = _
    rw [execNoticeGapElapsed, next]
    exact (Brings.nil _).cascade rests.owed (by decide) (rests.timed timer _)
  · have next : s.gapElapses = s := by simp only [State.gapElapses, none_]
    show execNoticeGapElapsed s = _
    rw [execNoticeGapElapsed, next]
    exact (Brings.nil s).cascade rests.owed (by decide) rests

end

section
/-! SUPPORT. The three resets, value by value, and the invariants at reset (R38, R60, R160, R171). -/
namespace Sys2Proof.Machine

variable {s : State}

/-- A reset bridge has nothing due, whatever its link, with no frame held (R61). -/
theorem State.resetAs_settles (s : State) (kind : ResetKind) :
    cascade [] (s.resetAs kind []) = .next (s.resetAs kind []) := by
  have stall (c : CtxId) : ((s.resetAs kind []).ctx c).stalled = false := by
    simp [State.resetAs, State.ctx_eq, State.reset, Engine.afterReset, Context.blank]
  have rests : (s.resetAs kind []).transmit = s.resetAs kind [] :=
    State.transmit_of_rests _ fun _ => ⟨rfl, .inl rfl⟩
  apply cascade_eq_of_owed rfl
  rw [List.nil_append, run_settle (s := s.resetAs kind []) (by decide) rfl rfl stall rfl, rests]

/-- RESET_BRIDGE is answered GOOD and stays in progress (R158, R171). -/
theorem State.Serves.resets {h : Header} (hs : s.Serves h) : receive (.manage h [0x14]) s = .next ({ s with
    target := { s.target with current := some (h.tag.toNat, .resetting) } }.mgmtDone h) := by
  let u : State := { s with target := { s.target with current := some (h.tag.toNat, .resetting) } }
  have answered : (s.taking h).takeCommand h.tag.toNat [0x14] = ([], u.mgmtDone h) :=
    congrArg (Prod.mk []) (State.answer_addEntry (s := u) (e := { newEntry .manage h [] with state := .issued })
      hs.free hs.up rfl (.plain .good))
  apply receive_manage hs (List.cons_ne_nil _ _)
  rw [answered, List.nil_append, run_settle (s := u.mgmtDone h) (by decide) hs.link rfl hs.stall hs.timer,
    State.transmit_of_busy (s := u.mgmtDone h) rfl]

@[simp] theorem State.port_reset (p : PortId) : State.reset.port p = .afterReset false 0 := by
  simp [State.port_eq, State.reset]

@[simp] theorem State.ctx_reset (c : CtxId) : State.reset.ctx c = .blank 0 := by
  simp [State.ctx_eq, State.reset, Engine.afterReset]

end Sys2Proof.Machine

open Sys2Proof Sys2Proof.Machine

/-- Settles O54: the reset values one by one, and what reports the last reset kind. -/
theorem resets : Obligations.Resets := by
  intro s pacing map fresh
  refine ⟨rfl, fun empty => ?_, fun kind c => ?_, ⟨_, rfl, rfl⟩, rfl, fun h t serves cleared => ?_,
    fun h serves => serves.resets⟩
  · have bridge : s.bridgeReset = s.resetAs .bridge [] := by rw [State.bridgeReset, empty]
    show cascade [] s.bridgeReset = _
    rw [bridge, State.resetAs_settles]
    rfl
  · simp [fresh, State.ctx_eq, Context.blank]
  · obtain ⟨-, -, -, -, clear⟩ := loadsAndNotices s h serves
    cases clear.symm.trans cleared
    rfl

/-- Settles O55: the channel reset field by field, and the link's indications (R60). -/
theorem channelResetAndLink : Obligations.ChannelResetAndLink := by
  intro s
  refine ⟨⟨s.channelReset, rfl, rfl, rfl, rfl, rfl, rfl, rfl, rfl, fun c none_ => ?_, fun c tag origin => ?_, fun p => ?_, rfl,
    rfl, rfl, rfl, rfl, rfl, rfl, ?_, rfl, rfl, rfl⟩, rfl, fun rests => ?_⟩
  · have ctx : s.channelReset.ctx c = (s.ctx c).dropRequest := Vector.getElem_map _ c.isLt
    rw [ctx, Context.dropRequest]
    split
    · next tag origin => exact absurd origin (none_ tag)
    all_goals rfl
  · have ctx : s.channelReset.ctx c = (s.ctx c).dropRequest := Vector.getElem_map _ c.isLt
    rw [ctx, Context.dropRequest, origin]
  · have port : s.channelReset.port p = (s.port p).orphanTags := Vector.getElem_map _ p.isLt
    rw [port, Port.orphanTags]
    congr 1
    apply List.map_congr_left
    intro e _
    obtain ⟨op, issue⟩ := e
    cases hop : op.orig <;> simp only [Originator.orphanTag] <;> rw [← hop]
  · show (s.notices.lost || s.losesNotice) = true ↔ _
    rw [Bool.or_eq_true, State.losesNotice, Bool.or_eq_true, bne_iff_ne]
    cases s.channel.tx <;> simp
  · exact (Brings.nil _).cascade rests.owed (by decide) rests

/-- Settles O60: nothing stands in a reset bridge that an invariant could fail on. -/
theorem invariantsAtReset : Obligations.InvariantsAtReset := by
  refine ⟨?mark, ?cursor, ?sweep, fun p => ?role, ?queue, ?table, fun p => ?port, ?lock⟩
  case mark =>
    exact ⟨fun p => by rw [State.port_reset]; simp [Port.afterReset, State.reset, Job.afterReset, JobState.bound],
      fun p => by rw [State.port_reset]; simp [Port.afterReset], fun bound => by cases bound⟩
  case cursor => exact ⟨le_rfl, le_rfl, fun e he => (List.not_mem_nil he).elim, fun _ => rfl⟩
  case sweep =>
    have noWindow (c : CtxId) (t : Nat) : (State.reset.ctx c).origin ≠ .window t := by
      rw [State.ctx_reset]
      simp [Context.blank]
    exact ⟨by decide, by decide, .nil, fun c t h => absurd h (noWindow c t), fun c d t h => absurd h (noWindow c t),
      fun e he => (List.not_mem_nil he).elim, rfl, by decide⟩
  case role => rw [State.port_reset]; simp [Port.afterReset, State.reset, Target.afterReset, MemberMap.empty]
  case queue => constructor <;> decide
  case table => exact ⟨.nil, fun e he => (List.not_mem_nil he).elim, ⟨.nil, fun e he => (List.not_mem_nil he).elim⟩,
      ⟨.nil, fun e he => (List.not_mem_nil he).elim⟩, ⟨.nil, fun e he => (List.not_mem_nil he).elim⟩⟩
  case port =>
    rw [State.port_reset]
    exact ⟨by decide, by decide, by decide, by decide, .nil, fun e he => (List.not_mem_nil he).elim⟩
  case lock =>
    exact ⟨by decide, fun e he => (List.not_mem_nil he).elim, .nil, fun e he => (List.not_mem_nil he).elim,
      fun e he => (List.not_mem_nil he).elim, fun p op hop => (List.not_mem_nil (State.port_reset p ▸ hop)).elim,
      fun e he => (List.not_mem_nil he).elim, fun c hc => by cases hc⟩

end

section
/-! SUPPORT. The issue rule entry by entry (R20), and the routing table row by row (R47 to R49). -/
namespace Sys2Proof.Machine

/-! ## The issue rule (R20) -/

section Issue

variable (deadline : Nat)

/-- What the issue rule makes of each entry: an outstanding one stands; a waiting one stands, or is issued under an
identity from `id` on and below `next`. -/
def IssuedFrom (id next : Nat) (e f : ListEntry) : Prop :=
  (e.issue.isSome = true → f.issue = e.issue) ∧
  (e.issue = none → f.issue = none ∨ ∃ n, f.issue = some { id := n, deadline } ∧ id ≤ n ∧ n < next)

theorem IssuedFrom.mono {id id' next : Nat} {e f : ListEntry} (le : id ≤ id') (h : IssuedFrom deadline id' next e f) :
    IssuedFrom deadline id next e f :=
  ⟨h.1, fun w => (h.2 w).imp_right fun ⟨n, hn, lo, hi⟩ => ⟨n, hn, le.trans lo, hi⟩⟩

theorem issueEntries_cons_issued {e : ListEntry} {i : Issue} (h : e.issue = some i) (slots id : Nat)
    (es : List ListEntry) : issueEntries deadline slots id (e :: es) =
      (e :: (issueEntries deadline slots id es).1, (issueEntries deadline slots id es).2) := by
  simp only [issueEntries, h]

theorem issueEntries_cons_full {e : ListEntry} (h : e.issue = none) (id : Nat) (es : List ListEntry) :
    issueEntries deadline 0 id (e :: es) = (e :: es, id) := by
  simp only [issueEntries, h]

theorem issueEntries_cons_waiting {e : ListEntry} (h : e.issue = none) (k id : Nat) (es : List ListEntry) :
    issueEntries deadline (k + 1) id (e :: es) =
      ({ e with issue := some { id, deadline } } :: (issueEntries deadline k (id + 1) es).1,
        (issueEntries deadline k (id + 1) es).2) := by
  simp only [issueEntries, h]

theorem issueEntries_next_le (slots id : Nat) (es : List ListEntry) : id ≤ (issueEntries deadline slots id es).2 := by
  induction es generalizing slots id with
  | nil => exact le_rfl
  | cons e es ih =>
    cases he : e.issue with
    | some i => rw [issueEntries_cons_issued _ he]; exact ih slots id
    | none => cases slots with
      | zero => rw [issueEntries_cons_full _ he]
      | succ k => rw [issueEntries_cons_waiting _ he]; exact (Nat.le_succ id).trans (ih k (id + 1))

/-- The issue rule fills the places at the drive as long as an entry waits (R20). -/
theorem issueEntries_outstanding (slots id : Nat) (es : List ListEntry) :
    (issueEntries deadline slots id es).1.countP (fun e => e.issue.isSome) =
      es.countP (fun e => e.issue.isSome) + min slots (es.length - es.countP (fun e => e.issue.isSome)) := by
  induction es generalizing slots id with
  | nil => simp [issueEntries]
  | cons e es ih =>
    have le : es.countP (fun e => e.issue.isSome) ≤ es.length := List.countP_le_length
    cases he : e.issue with
    | some i =>
      rw [issueEntries_cons_issued _ he]
      simp only [List.countP_cons, he, Option.isSome_some, if_true, List.length_cons, ih]
      omega
    | none => cases slots with
      | zero => simp [issueEntries_cons_full _ he]
      | succ k =>
        rw [issueEntries_cons_waiting _ he]
        simp only [List.countP_cons, he, Option.isSome_some, Option.isSome_none, Bool.false_eq_true, if_true, if_false,
          List.length_cons, ih]
        omega

/-- Entry by entry what the issue rule does (R20). -/
theorem issueEntries_forall (slots id : Nat) (es : List ListEntry) :
    List.Forall₂ (IssuedFrom deadline id (issueEntries deadline slots id es).2) es
      (issueEntries deadline slots id es).1 := by
  induction es generalizing slots id with
  | nil => exact .nil
  | cons e es ih =>
    have stands (es : List ListEntry) (next : Nat) : List.Forall₂ (IssuedFrom deadline id next) es es :=
      List.forall₂_same.mpr fun _ _ => ⟨fun _ => rfl, fun w => .inl w⟩
    cases he : e.issue with
    | some i => rw [issueEntries_cons_issued _ he]; exact .cons ⟨fun _ => rfl, fun w => .inl w⟩ (ih slots id)
    | none => cases slots with
      | zero => rw [issueEntries_cons_full _ he]; exact stands _ _
      | succ k =>
        rw [issueEntries_cons_waiting _ he]
        have next : id + 1 ≤ (issueEntries deadline k (id + 1) es).2 := issueEntries_next_le deadline _ _ _
        refine .cons ⟨fun w => ?_, fun _ => .inr ⟨id, rfl, le_rfl, next⟩⟩ ?_
        · rw [he] at w; cases w
        · exact (ih k (id + 1)).imp fun _ _ h => h.mono deadline (Nat.le_succ id)

/-- With no place left nothing is issued (R20). -/
theorem issueEntries_zero (id : Nat) (es : List ListEntry) : (issueEntries deadline 0 id es).1 = es := by
  induction es with
  | nil => rfl
  | cons e es ih =>
    cases he : e.issue with
    | some i => rw [issueEntries_cons_issued _ he]; exact congrArg (e :: ·) ih
    | none => rw [issueEntries_cons_full _ he]

/-- Of two waiting entries the older is issued first, under the lower identity (R20). -/
theorem issueEntries_order (slots id : Nat) (es : List ListEntry) {i j : Nat} (lt : i < j) (hj : j < es.length)
    (hk : j < (issueEntries deadline slots id es).1.length) (wi : (es[i]).issue = none) (wj : (es[j]).issue = none)
    (issued : ((issueEntries deadline slots id es).1[j]).issue.isSome = true) :
    ∃ a b, ((issueEntries deadline slots id es).1[i]).issue = some a ∧
      ((issueEntries deadline slots id es).1[j]).issue = some b ∧ a.id < b.id := by
  induction es generalizing slots id i j with
  | nil => cases hj
  | cons e es ih =>
    obtain ⟨j, rfl⟩ : ∃ k, j = k + 1 := ⟨j - 1, by omega⟩
    have hj' : j < es.length := Nat.lt_of_succ_lt_succ hj
    cases he : e.issue with
    | some x =>
      simp only [issueEntries_cons_issued _ he] at issued hk ⊢
      cases i with
      | zero => rw [List.getElem_cons_zero, he] at wi; cases wi
      | succ i => exact ih slots id (by omega) hj' (by simpa using hk) wi wj issued
    | none =>
      cases slots with
      | zero =>
        simp only [issueEntries_zero] at issued
        rw [wj] at issued
        cases issued
      | succ k =>
        simp only [issueEntries_cons_waiting _ he] at issued hk ⊢
        have hk' : j < (issueEntries deadline k (id + 1) es).1.length := by simpa using hk
        cases i with
        | zero =>
          obtain ⟨-, later⟩ := List.forall₂_iff_get.mp (issueEntries_forall deadline k (id + 1) es)
          rcases (later j hj' hk').2 wj with stays | ⟨n, hn, lo, -⟩
          · rw [List.getElem_cons_succ] at issued
            rw [List.get_eq_getElem] at stays
            rw [stays] at issued
            cases issued
          · exact ⟨_, _, rfl, hn, lo⟩
        | succ i => exact ih k (id + 1) (by omega) hj' hk' wi wj issued

end Issue

/-! ## The routing table (R47 to R49) -/

section Routing

variable {s : State}

theorem State.mem_memberPortsExcept {out : List Nat} {q : PortId} :
    q ∈ s.memberPortsExcept out ↔ ∃ i, (s.port q).role = .member i ∧ i ∉ out := by
  rw [State.memberPortsExcept, List.mem_filter, Port.memberIndex]
  cases hr : (s.port q).role <;> simp [mem_allPorts]

theorem allPorts_ascending : allPorts.Pairwise (· < ·) := by decide

theorem State.memberPortsExcept_ascending (out : List Nat) : (s.memberPortsExcept out).Pairwise (· < ·) :=
  allPorts_ascending.filter _

theorem State.fracturedMask_spec (t m : Nat) (q : PortId) : (s.fracturedMask t m q).Pairwise (· < ·) ∧
    ∀ r, r ∈ s.fracturedMask t m q ↔ r = q ∨ ∃ i, (s.port r).role = .member i ∧ i ∉ [t, m] := by
  refine ⟨allPorts_ascending.filter _, fun r => ?_⟩
  rw [State.fracturedMask, List.mem_filter, ← State.mem_memberPortsExcept]
  simp [mem_allPorts]

theorem State.spareCurrent_iff {t : Nat} : s.spareCurrent t = true ↔ s.job.state.bound = true ∧
    (t < s.job.w ∨ (∃ e ∈ s.job.window, e.stripe = t ∧ e.done = true) ∨ t ∈ s.job.ahead) := by
  simp [State.spareCurrent, Job.doneInWindow, or_assoc]

theorem State.fillAllowed_iff : s.fillAllowed = true ↔ s.target.policy.aheadFill = true ∧ s.job.ahead.length < 64 ∧
    (s.job.state = .active ∨ s.job.state = .stopping ∨ s.job.state = .stopped ∨ s.job.state = .paused) := by
  rw [State.fillAllowed, Bool.and_eq_true, Bool.and_eq_true, decide_eq_true_eq, and_assoc]
  cases s.job.state <;> simp [JobState.sweepable]

theorem lostRoute_of_flush {op : ReqOp} (h : op = .flush) : lostRoute op = .absorbed := by rw [h]; rfl

theorem lostRoute_of_ne {op : ReqOp} (h : op ≠ .flush) : lostRoute op = .lost := by
  cases op with
  | flush => exact absurd rfl h
  | read | write | manage => rfl

variable {m : Nat} {p : PortId} {op : ReqOp} {t : Nat}

/-- The row of a DEGRADED array (R47). -/
theorem State.routeOf_degraded (off : (s.port p).health ≠ .online) (array : s.arrayState = .degraded) :
    s.routeOf m p op t =
      if op = .read then .reconstruct .degraded (s.memberPortsExcept [m]) none none else .absorbed := by
  simp only [State.routeOf, if_neg off, array]

/-- The row of a BROKEN array (R47). -/
theorem State.routeOf_broken (off : (s.port p).health ≠ .online) (array : s.arrayState = .broken) :
    s.routeOf m p op t = lostRoute op := by
  simp only [State.routeOf, if_neg off, array]

/-- The row of T in a REBUILDING array (R47, R48). -/
theorem State.routeOf_rebuilding {q : PortId} (off : (s.port p).health ≠ .online) (array : s.arrayState = .rebuilding)
    (target : s.job.target = some m) (spare : s.job.spare = some q) : s.routeOf m p op t =
      if s.spareCurrent t then .forward q
      else match op with
        | .read =>
          if s.fillAllowed then .reconstruct .fill (s.memberPortsExcept [m]) (some q) (some m)
          else .reconstruct .degraded (s.memberPortsExcept [m]) none none
        | .flush => .forward q
        | .write | .manage => .absorbed := by
  simp only [State.routeOf, if_neg off, array, target, spare, ne_eq, not_true, if_false] <;> rfl

/-- The rows of a FRACTURED array (R47). -/
theorem State.routeOf_fractured {k : Nat} {q : PortId} (off : (s.port p).health ≠ .online)
    (array : s.arrayState = .fractured) (target : s.job.target = some k) (spare : s.job.spare = some q) :
    s.routeOf m p op t =
      if t < s.job.w then
        if m = k then .forward q
        else if op = .read then .reconstruct .degraded (s.fracturedMask k m q) none none
        else .absorbed
      else lostRoute op := by
  simp only [State.routeOf, if_neg off, array, target, spare]

end Routing

end Sys2Proof.Machine

open Sys2Proof Sys2Proof.Machine

/-- Settles O18: the issue rule by induction over the list (R20); off ONLINE it does nothing (R30). -/
theorem issueRule : Obligations.IssueRule := by
  intro s p x y
  refine ⟨fun off => if_neg off, fun online => ?_⟩
  let deadline := s.now + s.target.policy.driveTimeoutMicros
  let r := issueEntries deadline (Config.outstandingBound - x.outstanding) x.nextId x.list
  have issued : s.issue p = s.setPort p { x with list := r.1, nextId := r.2 } := if_pos online
  have port : y = { x with list := r.1, nextId := r.2 } := by
    show (s.issue p).port p = _
    rw [issued, State.port_setPort_self]
  have list : y.list = r.1 := by rw [port]
  have next : y.nextId = r.2 := by rw [port]
  have micros : deadline = s.now + s.target.policy.driveTimeout * 50 * 1000 := by
    show s.now + s.target.policy.driveTimeout * 50000 = _
    omega
  obtain ⟨-, each⟩ := List.forall₂_iff_get.mp
    (issueEntries_forall deadline (Config.outstandingBound - x.outstanding) x.nextId x.list)
  refine ⟨by rw [issued, port], by rw [list, next]; exact port, by rw [list]; exact issueEntries_ops _ _ _ _, ?_,
    fun i h k out => ?_, fun i h k waits => ?_, fun i j h hj k wi wj out => ?_⟩
  · have counted := issueEntries_outstanding deadline (Config.outstandingBound - x.outstanding) x.nextId x.list
    have le : x.outstanding ≤ x.list.length := List.countP_le_length
    have here : x.list.countP (fun e => e.issue.isSome) = x.outstanding := rfl
    rw [here] at counted
    rw [Port.outstanding, list, counted]
    omega
  · simp only [list] at k ⊢
    exact (each i h k).1 out
  · simp only [list] at k ⊢
    rw [next, ← micros]
    exact (each i h k).2 waits
  · simp only [list] at k out ⊢
    exact issueEntries_order deadline _ _ _ h hj k wi wj out

/-- Settles O12, row by row of the table (R47), the masks by membership (R49). -/
theorem routingTable : Obligations.RoutingTable := by
  intro s m p op t notManage route masked isMember current fills
  have members : ∀ q, q ∈ s.memberPortsExcept [m] ↔ isMember [m] q := fun q => State.mem_memberPortsExcept
  have reconstructs {kind : CtxKind} {target : Option PortId} {tm : Option Nat}
      (e : route = .reconstruct kind (s.memberPortsExcept [m]) target tm) : masked kind target tm (isMember [m]) :=
    ⟨_, e, State.memberPortsExcept_ascending _, members⟩
  refine ⟨fun online => if_pos online, fun off => ⟨fun array => ?_, fun array => ?_, fun q array target spare => ?_,
    fun k q array target spare => ?_⟩⟩
  · have row : route = _ := State.routeOf_degraded off array
    exact ⟨fun read => reconstructs (row.trans (if_pos read)), fun other => row.trans (if_neg other)⟩
  · have row : route = _ := State.routeOf_broken off array
    exact ⟨fun flush => row.trans (lostRoute_of_flush flush), fun other => row.trans (lostRoute_of_ne other)⟩
  · have row : route = _ := State.routeOf_rebuilding off array target spare
    refine ⟨fun is => row.trans (if_pos (State.spareCurrent_iff.mpr is)), fun isNot => ?_⟩
    rw [if_neg (mt State.spareCurrent_iff.mp isNot)] at row
    refine ⟨fun read may => reconstructs (row.trans ?_), fun read may => reconstructs (row.trans ?_),
      fun write => row.trans (by rw [write]), fun flush => row.trans (by rw [flush])⟩
    · rw [read]; exact if_pos (State.fillAllowed_iff.mpr may)
    · rw [read]; exact if_neg (mt State.fillAllowed_iff.mp may)
  · have row : route = _ := State.routeOf_fractured off array target spare
    obtain ⟨sorted, mask⟩ := s.fracturedMask_spec k m q
    refine ⟨fun below same => ?_, fun below other => ⟨fun read => ⟨_, ?_, sorted, mask⟩, fun notRead => ?_⟩,
      fun above => ⟨fun flush => ?_, fun other => ?_⟩⟩
    · rw [row, if_pos below, if_pos same]
    · rw [row, if_pos below, if_neg other, if_pos read]
    · rw [row, if_pos below, if_neg other, if_neg notRead]
    · rw [row, if_neg (not_lt.mpr above), lostRoute_of_flush flush]
    · rw [row, if_neg (not_lt.mpr above), lostRoute_of_ne other]

end

section
/-! SUPPORT. The lane algebra (R83, R86), masks and items of lost lanes (R136), and the exchange of roles (R11). -/
namespace Sys2Proof.Machine

/-! ## Outcomes lane by lane (R83) -/

/-- What an outcome does to lane i: it is dropped where a GOOD or UNREADABLE outcome brings no sector for it. -/
def Outcome.onLane (i : Nat) (l : Lane) : Outcome → Option Lane
  | .good data => data[i]?.map l.addGood
  | .unreadable data masks => (data.zip (masks.flatMap maskBits))[i]?.map
      (fun x => if x.2 then l.addUnreadable else l.addGood x.1)
  | .fault | .missing => some l.addMissing

theorem Outcome.getElem?_onLanes (o : Outcome) (lanes : List Lane) (i : Nat) :
    (o.onLanes lanes)[i]? = lanes[i]?.bind (o.onLane i) := by
  cases o with
  | good data =>
    simp only [Outcome.onLanes, lanesGood, Outcome.onLane, List.getElem?_zipWith]
    cases lanes[i]? <;> cases data[i]? <;> rfl
  | unreadable data masks =>
    simp only [Outcome.onLanes, lanesUnreadable, Outcome.onLane, List.getElem?_zipWith]
    cases lanes[i]? <;> cases (data.zip (masks.flatMap maskBits))[i]? <;> rfl
  | fault | missing =>
    simp only [Outcome.onLanes, Outcome.onLane, List.getElem?_map]
    cases lanes[i]? <;> rfl

/-- The inputs of a lane: what one outcome adds does not depend on what another added. -/
inductive LaneInput where
  | good (x : Sector)
  | unreadable
  | missing

/-- A lane with one more input. -/
def Lane.add (l : Lane) : LaneInput → Lane
  | .good x => l.addGood x
  | .unreadable => l.addUnreadable
  | .missing => l.addMissing

theorem Lane.add_comm (l : Lane) (a b : LaneInput) : (l.add a).add b = (l.add b).add a := by
  cases a with
  | good x =>
    cases b with
    | good y =>
      simp only [Lane.add, Lane.addGood, Lane.mk.injEq, and_self, and_true]
      rw [BitVec.xor_assoc, BitVec.xor_assoc, BitVec.xor_comm x y]
    | unreadable | missing => rfl
  | unreadable | missing => cases b <;> rfl

/-- The input an outcome gives to lane i. -/
def Outcome.input (i : Nat) : Outcome → Option LaneInput
  | .good data => data[i]?.map .good
  | .unreadable data masks => (data.zip (masks.flatMap maskBits))[i]?.map
      (fun x => if x.2 then .unreadable else .good x.1)
  | .fault | .missing => some .missing

theorem Outcome.onLane_eq (o : Outcome) (i : Nat) (l : Lane) : o.onLane i l = (o.input i).map l.add := by
  cases o with
  | good data =>
    simp only [Outcome.onLane, Outcome.input]
    cases data[i]? <;> rfl
  | unreadable data masks =>
    simp only [Outcome.onLane, Outcome.input]
    cases (data.zip (masks.flatMap maskBits))[i]? with
    | none => rfl
    | some x => obtain ⟨x, named⟩ := x; cases named <;> rfl
  | fault | missing => rfl

/-- Two outcomes leave the same lanes in either order (R83). -/
theorem Outcome.onLanes_comm (lanes : List Lane) (a b : Outcome) :
    b.onLanes (a.onLanes lanes) = a.onLanes (b.onLanes lanes) := by
  apply List.ext_getElem?
  intro i
  rw [Outcome.getElem?_onLanes, Outcome.getElem?_onLanes, Outcome.getElem?_onLanes, Outcome.getElem?_onLanes]
  cases lanes[i]? with
  | none => rfl
  | some l =>
    simp only [Option.bind_some, Outcome.onLane_eq]
    cases a.input i <;> cases b.input i <;> simp [*, Lane.add_comm]

/-! ## GOOD data from every port -/

/-- A lane after the sectors that GOOD outcomes brought it. -/
theorem Lane.foldl_addGood (l : Lane) (xs : List Sector) : xs.foldl Lane.addGood l =
    { l with acc := xs.foldl (· ^^^ ·) l.acc, good := l.good || !xs.isEmpty } := by
  induction xs generalizing l with
  | nil => cases l; simp
  | cons x xs ih => rw [List.foldl_cons, ih]; simp [Lane.addGood]

theorem getElem?_foldl_good (datas : List (List Sector)) (lanes : List Lane) (i : Nat)
    (long : ∀ d ∈ datas, i < d.length) :
    ((datas.map Outcome.good).foldl Outcome.onLanes lanes)[i]? =
      lanes[i]?.map (fun l => (datas.map (fun d => d.getD i 0)).foldl Lane.addGood l) := by
  induction datas generalizing lanes with
  | nil => simp
  | cons d datas ih =>
    have inside : i < d.length := long d (by simp)
    have here : d[i]? = some d[i] := List.getElem?_eq_getElem inside
    rw [List.map_cons, List.foldl_cons, ih _ (fun d' h => long d' (List.mem_cons_of_mem _ h)),
      Outcome.getElem?_onLanes]
    cases lanes[i]? <;> simp [Outcome.onLane, here]

/-! ## The masks, bit by bit (R83) -/

theorem length_maskBits (m : Byte) : (maskBits m).length = 8 := by
  rw [maskBits, List.length_map, List.length_range]

theorem getElem?_flatMap_maskBits (masks : List Byte) (i : Nat) (inside : i < 8 * masks.length) :
    (masks.flatMap maskBits)[i]? = some ((masks.getD (i / 8) 0).getLsbD (i % 8)) := by
  induction masks generalizing i with
  | nil => simp at inside
  | cons m masks ih =>
    rw [List.flatMap_cons]
    by_cases first : i < 8
    · rw [List.getElem?_append_left (by rw [length_maskBits]; exact first), Nat.div_eq_of_lt first, Nat.mod_eq_of_lt first,
        maskBits, List.getElem?_map, List.getElem?_range first]
      rfl
    · have inside : i - 8 < 8 * masks.length := by simp only [List.length_cons] at inside; omega
      obtain ⟨quotient, remainder⟩ : i / 8 = (i - 8) / 8 + 1 ∧ (i - 8) % 8 = i % 8 := by omega
      rw [List.getElem?_append_right (by rw [length_maskBits]; omega), length_maskBits, ih _ inside, quotient, remainder,
        List.getD_cons_succ]

/-! ## The mask of eight lanes, and the items of a context's lost lanes (R88, R136) -/

theorem testBit_foldr_bits (bits : List Bool) (k : Nat) :
    (bits.foldr (fun (b : Bool) n => b.toNat + 2 * n) 0).testBit k = bits[k]?.getD false := by
  induction bits generalizing k with
  | nil => simp
  | cons b bits ih =>
    cases k with
    | zero => cases b <;> simp [Nat.testBit_zero]
    | succ k =>
      have half : (b.toNat + 2 * bits.foldr (fun (b : Bool) n => b.toNat + 2 * n) 0) / 2 =
          bits.foldr (fun (b : Bool) n => b.toNat + 2 * n) 0 := by 
        cases b <;> simp only [Bool.toNat_true, Bool.toNat_false] <;> omega
      rw [List.foldr_cons, Nat.testBit_succ, half, ih, List.getElem?_cons_succ]

/-- Bit k of a block's lost mask says whether lane k of the block is lost. -/
theorem getLsbD_lostMask (classes : List LaneClass) (b : Nat) {k : Nat} (hk : k < 8) :
    (lostMask classes b).getLsbD k = true ↔ ∃ cl, classes[8 * b + k]? = some cl ∧ cl ≠ .good := by
  rw [lostMask, maskOf, BitVec.getLsbD_ofNat, testBit_foldr_bits, List.getElem?_map, blockOf, List.getElem?_take_of_lt hk,
    List.getElem?_drop]
  cases classes[8 * b + k]? with
  | none => simp
  | some cl => cases cl <;> simp [hk, LaneClass.lost]

theorem mem_lostItems {classes : List LaneClass} {count b : Nat} {mask : Byte} :
    (b, mask) ∈ lostItems classes count ↔ b < count ∧ mask ≠ 0 ∧ mask = lostMask classes b := by
  simp only [lostItems, List.mem_filterMap, List.mem_range]
  constructor
  · rintro ⟨b', inside, item⟩
    split at item
    · cases item
    · next named => cases item; exact ⟨inside, named, rfl⟩
  · rintro ⟨inside, named, rfl⟩
    exact ⟨b, inside, if_neg named⟩

theorem lostItems_ascending (classes : List LaneClass) (count : Nat) :
    (lostItems classes count).Pairwise (fun a b => a.1 < b.1) := by
  refine List.Pairwise.filterMap _ (fun a a' before b hb b' hb' => ?_) List.pairwise_lt_range
  split at hb
  · cases hb
  · split at hb'
    · cases hb'
    · cases hb; cases hb'; exact before

/-- The cause of a lost entry by the classes that stand among its lanes (R136). -/
theorem lostCause_iff {classes : List LaneClass} (lost : classes.any LaneClass.lost = true) :
    (lostCause classes = .unreadable ↔ .lostMissing ∉ classes) ∧ (lostCause classes = .missing ↔ .lostUnreadable ∉ classes) := by
  have all_ne (cl : LaneClass) : classes.all (· != cl) = true ↔ cl ∉ classes := by
    simp only [List.all_eq_true, bne_iff_ne, ne_eq]
    exact ⟨fun h m => h cl m rfl, fun h x m e => h (e ▸ m)⟩
  obtain ⟨cl, mem, isLost⟩ := List.any_eq_true.1 lost
  have either : .lostMissing ∈ classes ∨ .lostUnreadable ∈ classes := by
    cases cl with
    | good => cases isLost
    | lostUnreadable => exact .inr mem
    | lostMissing => exact .inl mem
  unfold lostCause
  by_cases missing : .lostMissing ∈ classes <;> by_cases unreadable : .lostUnreadable ∈ classes <;>
    simp_all

theorem Port.memberIndex_eq_some {x : Port} {m : Nat} : x.memberIndex = some m ↔ x.role = .member m := by
  unfold Port.memberIndex
  split
  · next i role => rw [role]; simp
  · next none => exact ⟨nofun, fun role => (none m role).elim⟩

theorem mem_sourceMembers {s : State} {ports : List PortId} {m : Nat} :
    m ∈ s.sourceMembers ports ↔ m ≤ 8 ∧ ∃ p ∈ ports, (s.port p).role = .member m := by
  simp only [State.sourceMembers, List.mem_filter, List.mem_range, List.any_eq_true, beq_iff_eq, Port.memberIndex_eq_some,
    Nat.lt_succ_iff]

/-! ## The exchange of roles at completion (R11) -/

theorem State.fireMilestones_none {s : State} {w : Nat} (later : ∀ m ∈ s.notices.milestones, w < m.target) :
    s.fireMilestones w = s := by
  have due : s.notices.milestones.takeWhile (fun m => m.target ≤ w) = [] := by
    cases list : s.notices.milestones with
    | nil => rfl
    | cons m ms => simp [later m (by simp [list])]
  have rest : s.notices.milestones.dropWhile (fun m => m.target ≤ w) = s.notices.milestones := by
    cases list : s.notices.milestones with
    | nil => rfl
    | cons m ms => simp [later m (by simp [list])]
  rw [State.fireMilestones, due, rest]
  rfl

/-- T's old port and the spare differ: the role exchange writes each once. -/
theorem State.roleExchange_of_port {s : State} {t : Nat} {p q : PortId} (old : s.portOf t = some q) (other : p ≠ q) :
    s.roleExchange t p = { (s.setPort q { s.port q with role := .unused }).setPort p
        { s.port p with role := .member t, bound := false } with
      target := { s.target with committed := { s.target.committed with
        roles := (s.target.committed.roles.set q .unused).set p (.member t) } } } := by
  rw [State.roleExchange, old]
  have spare : (s.setRole q .unused).port p = s.port p := s.port_setPort_ne other.symm _
  have twice (u : State) (r : Role) : (u.setRole p r).setPort p { (u.setRole p r).port p with bound := false } =
      { u.setPort p { u.port p with role := r, bound := false } with
        target := { u.target with committed := { u.target.committed with roles := u.target.committed.roles.set p r } } } := by
    have written : (u.setRole p r).port p = { u.port p with role := r } := u.port_setPort_self p _
    rw [written]
    simp [State.setRole, State.setPort]
  rw [twice, spare]
  rfl

end Sys2Proof.Machine

open Sys2Proof Sys2Proof.Machine

/-- Settles O27: lane by lane, an outcome is an input, and inputs commute; GOOD inputs gather their exclusive-OR. -/
theorem lanesInAnyOrder : Obligations.LanesInAnyOrder := by
  refine ⟨fun lanes a b perm => ?_, fun datas n i inside _ long => ?_, fun lanes d masks i inside same whole => ?_,
    fun l => ⟨?_, ?_, ?_⟩⟩
  · exact perm.foldl_eq' (fun x _ y _ z => Outcome.onLanes_comm z x y) lanes
  · have start : (List.replicate n Lane.empty)[i]? = .some Lane.empty := by simp [inside]
    have lane := getElem?_foldl_good datas (List.replicate n Lane.empty) i (fun d h => long d h ▸ inside)
    rw [start, Option.map_some, Lane.foldl_addGood] at lane
    simp only [List.getElem?_map, lane, Option.map_some]
    simp [Lane.class, Lane.output, LaneClass.lost, Lane.empty]
  · have sector : d[i]? = some (d.getD i 0) := by
      simp [List.getD_eq_getElem?_getD, show i < d.length by omega]
    have bit := getElem?_flatMap_maskBits masks i (by omega)
    have lane := Outcome.getElem?_onLanes (.unreadable d masks) lanes i
    simp only [Outcome.onLanes] at lane
    rw [lane]
    simp only [Outcome.onLane]
    have pair : (d.zip (masks.flatMap maskBits))[i]? =
        some (d.getD i 0, (masks.getD (i / 8) 0).getLsbD (i % 8)) := List.getElem?_zip_eq_some.2 ⟨sector, bit⟩
    rw [pair]
    cases lanes[i]? <;> rfl
  · intro missing
    simp [Lane.class, Lane.output, LaneClass.lost, missing]
  · intro missing unreadable
    simp [Lane.class, Lane.output, LaneClass.lost, missing, unreadable]
  · intro missing unreadable
    simp [Lane.class, Lane.output, LaneClass.lost, missing, unreadable]

/-- Settles O33, by what notices leave standing and the bits of a block's lost mask (R136, R138). -/
theorem lostEntryAppended : Obligations.LostEntryAppended := by
  refine ⟨fun s e => ⟨fun below => ?_, fun full other => ?_, fun full active => ?_⟩,
    fun s c t target => ⟨rfl, by simp [State.lostEntry, target], List.Pairwise.filter _ List.pairwise_lt_range,
      fun m => mem_sourceMembers, lostItems_ascending _ _, fun b mask => ?_, lostCause_iff⟩⟩
  · rw [State.appendLost, if_neg (by simpa using below)]
  · rw [State.appendLost, if_pos (by simpa using full), if_neg other]
  · rw [State.appendLost, if_pos (by simpa using full), if_pos active,
      State.jobTo_of_ne (by simp [active])]
    simp only [State.notify_job]
  · show (b, mask) ∈ lostItems _ _ ↔ _
    rw [mem_lostItems]
    constructor
    · rintro ⟨inside, named, rfl⟩
      exact ⟨inside, named, fun k hk => getLsbD_lostMask _ _ hk⟩
    · rintro ⟨inside, named, bits⟩
      refine ⟨inside, named, BitVec.eq_of_getLsbD_eq (fun k hk => ?_)⟩
      rw [Bool.eq_iff_iff, bits k hk, getLsbD_lostMask _ _ hk]

/-- Settles O38: with no milestone due and no awaiting STOP, completion is the role exchange, the job and two notices. -/
theorem completionExchangesRoles : Obligations.CompletionExchangesRoles := by
  intro s t p q target spare old other awaiting later
  simp only [State.complete, target, spare, State.fireMilestones_none later, State.roleExchange_of_port old other]
  rw [State.answerStop]
  simp [awaiting, target, spare]

end

section
/-! SUPPORT. What the end or the halt of a bound job leaves (R95, R104, R115, R117). -/
namespace Sys2Proof.Machine

/-- What stands once the contexts named have been abandoned with the window they worked for. -/
def State.Abandons (s : State) (gone : CtxId → Prop) (t : State) : Prop :=
  t.job.window = [] ∧ t.job.ahead = [] ∧ t.lost.entries = s.lost.entries ∧
  t.lost.reservations = s.lost.reservations - (s.job.window.filter (fun e => !e.done)).length ∧
  (∀ c, gone c → (t.ctx c).state = .free ∧ ∀ l ∈ t.slt.locks, l.ctx ≠ c) ∧
  (∀ c, ¬ gone c → t.ctx c = s.ctx c ∧ ∀ l, l.ctx = c → (l ∈ t.slt.locks ↔ l ∈ s.slt.locks)) ∧
  (∀ p, (t.port p).health = (s.port p).health ∧ (t.port p).role = (s.port p).role ∧
    (t.port p).errors = (s.port p).errors ∧ (t.port p).list.length = (s.port p).list.length ∧
    (∀ i (hi : i < (s.port p).list.length) (hj : i < (t.port p).list.length),
      let e := (s.port p).list[i]
      ((∃ c n, gone c ∧ e.op.orig = .ctx c n) →
        (t.port p).list[i] = { e with op := { e.op with orig := .orphan } }) ∧
      ((∀ c n, gone c → e.op.orig ≠ .ctx c n) → (t.port p).list[i] = e)) ∧
    (∀ op, op ∈ (t.port p).deferred ↔ op ∈ (s.port p).deferred ∧ ∀ c n, gone c → op.orig ≠ .ctx c n))

/-- An originator whose context is abandoned becomes an orphan, any other stands. -/
theorem Originator.orphanCtxs_of_mem {cs : List CtxId} {c : CtxId} (n : Nat) (mem : c ∈ cs) :
    (Originator.ctx c n).orphanCtxs cs = .orphan := by simp [Originator.orphanCtxs, mem]

theorem Originator.orphanCtxs_of_not_mem {cs : List CtxId} {o : Originator} (other : ∀ c n, c ∈ cs → o ≠ .ctx c n) :
    o.orphanCtxs cs = o := by
  cases o with
  | ctx c n => simp [Originator.orphanCtxs, show c ∉ cs from fun mem => other c n mem rfl]
  | tag | orphan => rfl

theorem DriveOp.ofCtxs_eq_false_iff {cs : List CtxId} {op : DriveOp} :
    (!op.ofCtxs cs) = true ↔ ∀ c n, c ∈ cs → op.orig ≠ .ctx c n := by
  unfold DriveOp.ofCtxs
  cases op.orig with
  | ctx c n =>
    simp only [List.contains_eq_mem, Bool.not_eq_true', decide_eq_false_iff_not, ne_eq, Originator.ctx.injEq, not_and]
    exact ⟨fun out d m mem e => (out (e ▸ mem)).elim, fun other mem => other c n mem rfl rfl⟩
  | tag | orphan => simp

/-- Abandonment read off the contexts, the locks and the ports it writes. -/
theorem State.Abandons.of_abandon {s t : State} {gone : CtxId → Prop} {cs : List CtxId} (hcs : ∀ c, c ∈ cs ↔ gone c)
    (window : t.job.window = []) (ahead : t.job.ahead = [])
    (lost : t.lost = { s.lost with reservations := s.lost.reservations - s.job.window.countP (fun e => !e.done) })
    (ctx : ∀ c, t.ctx c = if c ∈ cs then .blank (s.ctx c).serial else s.ctx c)
    (locks : t.slt.locks = s.slt.locks.filter (fun l => !cs.contains l.ctx))
    (port : ∀ p, ∃ bound, t.port p = { (s.port p).orphanCtxs cs with bound }) : s.Abandons gone t := by
  refine ⟨window, ahead, by rw [lost], by rw [lost, List.countP_eq_length_filter], fun c hc => ⟨?_, fun l hl e => ?_⟩,
    fun c hc => ⟨?_, fun l e => ?_⟩, fun p => ?_⟩
  · rw [ctx, if_pos ((hcs c).2 hc)]; rfl
  · rw [locks] at hl
    simp [e, (hcs c).2 hc] at hl
  · rw [ctx, if_neg (fun mem => hc ((hcs c).1 mem))]
  · rw [locks]
    simp [e, show c ∉ cs from fun mem => hc ((hcs c).1 mem)]
  · obtain ⟨bound, hp⟩ := port p
    rw [hp]
    refine ⟨rfl, rfl, rfl, by simp [Port.orphanCtxs], fun i hi hj => ⟨?_, fun other => ?_⟩, fun op => ?_⟩
    · rintro ⟨c, n, hc, orig⟩
      simp [Port.orphanCtxs, orig, Originator.orphanCtxs_of_mem n ((hcs c).2 hc)]
    · have same := Originator.orphanCtxs_of_not_mem (cs := cs) (fun c n mem => other c n ((hcs c).1 mem))
      simp [Port.orphanCtxs, same]
    · simp only [Port.orphanCtxs, List.mem_filter, DriveOp.ofCtxs_eq_false_iff, hcs]

/-- What abandonment leaves is said of the window, the lost list, the contexts, the locks and the ports. -/
theorem State.Abandons.congr {s t u : State} {gone : CtxId → Prop} (h : s.Abandons gone t)
    (window : u.job.window = t.job.window) (ahead : u.job.ahead = t.job.ahead) (lost : u.lost = t.lost)
    (engine : u.engine = t.engine) (slt : u.slt = t.slt) (ports : u.ports = t.ports) : s.Abandons gone u := by
  have ctx (c : CtxId) : u.ctx c = t.ctx c := State.ctx_congr (by rw [engine]) c
  have port (p : PortId) : u.port p = t.port p := State.port_congr ports p
  unfold State.Abandons at h ⊢
  simp only [window, ahead, lost, slt, ctx, port]
  exact h

/-- The requests a spare loss hands back change only in the table. -/
theorem State.withHandedBack_eq (s : State) : ∃ table, s.withHandedBack = { s with table } := by
  unfold State.withHandedBack
  rw [State.foldl_setEntry (InFlight.toRouting_tag _) (InFlight.toRouting_toRouting _)]
  exact ⟨_, rfl⟩

theorem State.abandon_locks (s : State) (cs : List CtxId) :
    (s.abandon cs).slt.locks = s.slt.locks.filter (fun l => !cs.contains l.ctx) := by
  rw [State.abandon, State.freeCtxs_eq]; rfl

@[simp] theorem State.jobEnds_slt (s : State) (cause : JobCause) : (s.jobEnds cause).slt = s.slt := by
  simp [State.jobEnds]

theorem State.mem_sweepCtxs {s : State} {c : CtxId} :
    c ∈ s.sweepCtxs ↔ (s.ctx c).state ≠ .free ∧ (s.ctx c).kind = .sweep := by
  simp [State.sweepCtxs, mem_allCtxs]

theorem State.mem_spareLossCtxs {s : State} {c : CtxId} : c ∈ s.spareLossCtxs ↔
    ((s.ctx c).state ≠ .free ∧ (s.ctx c).kind = .sweep) ∨ ((s.ctx c).state ≠ .free ∧ (s.ctx c).kind = .fill) := by
  simp [State.spareLossCtxs, State.sweepCtxs, State.fillCtxs, mem_allCtxs]

/-- A second fault abandons the SWEEP contexts (R115). -/
theorem State.abandons_secondFault (s : State) :
    s.Abandons (fun c => (s.ctx c).state ≠ .free ∧ (s.ctx c).kind = .sweep) s.secondFault.2 := by
  obtain ⟨job, -, lost, port, ctx⟩ := s.abandon_frame s.sweepCtxs
  refine .of_abandon (fun c => s.mem_sweepCtxs) ?_ ?_ ?_ (fun c => ?_) ?_ (fun p => ?_)
  · simp [State.secondFault]
  · simp [State.secondFault]
  · simp [State.secondFault, State.dropWindow, lost, job]
  · rw [← ctx]
    exact State.ctx_congr (by simp [State.secondFault]) c
  · simp [State.secondFault, State.abandon_locks]
  · rw [State.port_congr (t := s.abandon s.sweepCtxs) (by simp [State.secondFault]), port]
    exact ⟨_, rfl⟩

/-- The end of an unbound job leaves the contexts named abandoned (R104, R117). -/
theorem State.abandons_jobEnds {s : State} {gone : CtxId → Prop} {cs : List CtxId} (hcs : ∀ c, c ∈ cs ↔ gone c)
    (cause : JobCause) : s.Abandons gone ((s.abandon cs).jobEnds cause) := by
  obtain ⟨job, -, lost, port, ctx⟩ := s.abandon_frame cs
  obtain ⟨ends, ports, -, -, engine, reserved⟩ := (s.abandon cs).jobEnds_spec cause
  refine .of_abandon hcs (by rw [ends]) (by rw [ends]) (by rw [reserved, lost, job]) (fun c => ?_) ?_ (fun p => ?_)
  · rw [← ctx]
    exact State.ctx_congr (by rw [engine]) c
  · rw [State.jobEnds_slt, State.abandon_locks]
  · rw [State.port_congr ports, State.port_unbind, port]
    exact ⟨_, rfl⟩

end Sys2Proof.Machine

open Sys2Proof Sys2Proof.Machine

/-- Settles O36, by what abandonment writes and what the end of the job adds to it (R95, R104, R115, R117). -/
theorem sweepContextsAbandoned : Obligations.SweepContextsAbandoned := by
  intro s sweep abandoned
  refine ⟨s.abandons_secondFault, State.abandons_jobEnds (fun c => s.mem_sweepCtxs) _, ?_, ?_, ?_⟩
  · obtain ⟨table, handed⟩ := s.withHandedBack_eq
    have ended : s.Abandons (fun c => sweep c ∨ ((s.ctx c).state ≠ .free ∧ (s.ctx c).kind = .fill))
        ((s.withHandedBack.abandon s.spareLossCtxs).jobEnds .spareLost) := by
      rw [handed]
      exact State.abandons_jobEnds (s := { s with table }) (fun c => s.mem_spareLossCtxs) .spareLost
    rw [s.spareLoss_state]
    rcases ((s.withHandedBack.abandon s.spareLossCtxs).jobEnds .spareLost).armIfDue_cases with e | ⟨m, -, -, -, e⟩
    · rw [e]; exact ended
    · rw [e]
      exact ended.congr (by simp) (by simp) (by simp) (by simp) (by simp) (by simp)
  · obtain ⟨job, -, -, port, -⟩ := s.abandon_frame s.sweepCtxs
    have j : s.secondFault.2.job = { s.job with
        state := .halted, cause := .secondFault, n := s.job.w, window := [], ahead := [], awaiting := none } := by
      simp [State.secondFault, State.dropWindow, job]
    have ports : s.secondFault.2.ports = (s.abandon s.sweepCtxs).ports := by simp [State.secondFault]
    refine ⟨congrArg (·.state) j, congrArg (·.cause) j, congrArg (·.w) j, congrArg (·.n) j, congrArg (·.target) j,
      congrArg (·.spare) j, fun p => ?_⟩
    rw [State.port_congr ports, port]
    rfl
  · obtain ⟨job, -, -, port, -⟩ := s.abandon_frame s.sweepCtxs
    obtain ⟨ends, ports, -⟩ := (s.abandon s.sweepCtxs).jobEnds_spec .command
    have j : s.abandonJob.2.job = _ := ends
    refine ⟨congrArg (·.state) j, congrArg (·.cause) j, congrArg (·.w) j, congrArg (·.n) j, congrArg (·.target) j,
      congrArg (·.spare) j, fun p spare => ?_⟩
    rw [State.port_congr (show s.abandonJob.2.ports = _ from ports), State.port_unbind, job]
    simp [spare]

end

section
/-! SUPPORT. START_REBUILD (R102): its checks, and a completion at once with a STOP that may still await (R103, R112). -/
namespace Sys2Proof.Machine

variable {s : State} {h : Header}

/-! ## Answers beside a command in progress -/

/-- An entry looked up after a change of one that keeps its tag. -/
theorem State.entry?_setEntry {f : InFlight → InFlight} (htag : ∀ e, (f e).tag = e.tag) (s : State) (tag t : Nat) :
    (s.setEntry tag f).entry? t = (s.entry? t).map (fun e => if e.tag = tag then f e else e) := by
  have same : ((fun e : InFlight => e.tag == t) ∘ fun e => if e.tag = tag then f e else e) = fun e => e.tag == t := by
    funext e
    simp only [Function.comp]
    split
    · rw [htag]
    · rfl
  rw [State.entry?, State.setEntry, List.find?_map, same]
  rfl

/-- The tag of an entry is the one it is found by. -/
theorem State.tag_of_entry? {tag : Nat} {e : InFlight} (found : s.entry? tag = some e) : e.tag = tag := by
  simpa using List.find?_some found

/-- Only an answerable entry is answered, and so once (R41). -/
theorem State.answer_answer (s : State) (tag : Nat) (r r' : Response) : (s.answer tag r).answer tag r' = s.answer tag r := by
  have answered : ((s.answer tag r).entry? tag).any (·.answerable) = false := by
    rcases s.answer_cases tag r with ⟨none_, e⟩ | ⟨x, found, -, e⟩
    · rw [e, none_]
    · rw [e, State.entry?, State.queueResponse_table, ← State.entry?, State.entry?_setEntry (by intro e; rfl), found,
        Option.map_some, if_pos (State.tag_of_entry? found)]
      rfl
  rw [State.answer, if_neg (by simp [answered])]

/-- An answer to another entry is given as if no command were being taken. -/
theorem State.taking_answer {tag : Nat} (other : tag ≠ h.tag.toNat) (r : Response) :
    (s.taking h).answer tag r = (s.answer tag r).taking h := by
  have found : (s.taking h).entry? tag = s.entry? tag := by
    have different : (h.tag.toNat == tag) = false := by simpa using Ne.symm other
    simp [State.entry?, State.taking, State.addEntry, List.find?_append, newEntry, different]
  have set_ (f : InFlight → InFlight) : (s.taking h).setEntry tag f = (s.setEntry tag f).taking h := by
    simp [State.setEntry, State.taking, State.addEntry, newEntry, Ne.symm other]
  unfold State.answer
  rw [found]
  split
  · rw [set_, State.queueResponse, State.queueResponse, ← State.taking_transmit]
    rfl
  · rfl

theorem State.answerStop_of_none (none_ : s.job.awaiting = none) (st : Status) : s.answerStop st = s := by
  simp only [State.answerStop, none_]

/-- An awaiting STOP is answered GOOD with nothing latched (R103, R159). -/
theorem State.answerStop_good {tag : Nat} (awaiting : s.job.awaiting = some tag) :
    s.answerStop .good = ({ s with job := { s.job with awaiting := none } } : State).answer tag (.plain .good) := by
  simp only [State.answerStop, awaiting, if_true]

theorem State.taking_answerStop_good (other : s.job.awaiting ≠ some h.tag.toNat) :
    (s.taking h).answerStop .good = (s.answerStop .good).taking h := by
  cases awaiting : s.job.awaiting with
  | none => rw [State.answerStop_of_none awaiting, State.answerStop_of_none (s := s.taking h) awaiting]
  | some tag =>
    have different : tag ≠ h.tag.toNat := fun e => other (by rw [awaiting, e])
    rw [State.answerStop_good awaiting, State.answerStop_good (s := s.taking h) awaiting, ← State.taking_answer different]
    rfl

/-! ## Completion beside a command in progress -/

/-- What completion writes before it answers an awaiting STOP (R112). -/
def State.completed (s : State) (t : Nat) (p : PortId) : State :=
  let s1 := (s.fireMilestones s.job.w).roleExchange t p
  let s2 := { s1 with job := { s1.job with ahead := [], window := [], state := .done, cause := .complete } }
  (s2.notify (.jobState .done .complete s2.job.w)).notify (.complete t p)

theorem State.complete_eq {t : Nat} {p : PortId} (target : s.job.target = some t) (spare : s.job.spare = some p) :
    s.complete = (s.completed t p).answerStop .good := by
  rw [State.complete, target, spare]; rfl

theorem State.taking_fireMilestones (w : Nat) : (s.taking h).fireMilestones w = (s.fireMilestones w).taking h := by
  have all (due : List Milestone) (u : State) : due.foldl (fun t m => t.notify (.milestone m.tag w)) (u.taking h) =
      (due.foldl (fun t m => t.notify (.milestone m.tag w)) u).taking h := by
    induction due generalizing u with
    | nil => rfl
    | cons m due ih => rw [List.foldl_cons, State.taking_notify, ih, List.foldl_cons]
  exact all _ { s with notices := { s.notices with milestones := s.notices.milestones.dropWhile (fun m => m.target ≤ w) } }

theorem State.taking_roleExchange (t : Nat) (p : PortId) :
    (s.taking h).roleExchange t p = (s.roleExchange t p).taking h := by
  unfold State.roleExchange
  rw [show (s.taking h).portOf t = s.portOf t from rfl]
  cases s.portOf t <;> rfl

theorem State.taking_completed (t : Nat) (p : PortId) : (s.taking h).completed t p = (s.completed t p).taking h := by
  unfold State.completed
  dsimp only
  rw [State.taking_fireMilestones, State.taking_roleExchange, ← State.taking_notify, ← State.taking_notify]
  rfl

/-! ## The bridge after a completion -/

/-- What completion writes, but for the answer to an awaiting STOP (R112). -/
theorem State.completed_frame (s : State) (t : Nat) (p : PortId) : ∃ tx roles ports notices, s.completed t p = { s with
    channel := { s.channel with tx }, target := { s.target with committed := { s.target.committed with roles } }
    ports, notices
    job := { s.job with ahead := [], window := [], state := .done, cause := .complete } } := by
  obtain ⟨tx, queue, lost, fired⟩ := s.fireMilestones_notified s.job.w
  obtain ⟨roles, ports, exchanged⟩ := (s.fireMilestones s.job.w).roleExchange_frame t p
  unfold State.completed
  rw [exchanged, fired]
  obtain ⟨tx', queue', lost', e⟩ := (State.notify_notified _ (.jobState .done .complete s.job.w)).trans
    (State.notify_notified _ (.complete t p))
  exact ⟨tx', roles, ports, _, e⟩

/-- What completion leaves of a bridge that serves the management target, but for an awaiting STOP, serves it still. -/
theorem State.Serves.completed (hs : s.Serves h) (t : Nat) (p : PortId) : (s.completed t p).Serves h := by
  obtain ⟨tx, roles, ports, notices, e⟩ := s.completed_frame t p
  rw [e]
  exact hs.of_same (State.settleDue_of_not_armed (by simp)) rfl rfl rfl rfl rfl rfl rfl rfl

/-- An answer to another entry leaves a bridge that serves the management target so. -/
theorem State.Serves.answer (hs : s.Serves h) (tag : Nat) (r : Response) : (s.answer tag r).Serves h := by
  rcases s.answer_cases tag r with ⟨-, e⟩ | ⟨x, -, -, e⟩
  · rw [e]; exact hs
  · rw [e, State.queueResponse_up _ (by simpa using hs.up)]
    exact {
      up := hs.up
      link := hs.link
      commit := State.commitReady_of_not_committing (by simp [State.committing, State.setEntry, hs.current])
      stall := hs.stall
      timer := hs.timer
      owed := hs.owed
      room := by
        have := hs.room
        simpa [Channel.refusals, List.countP_append] using this
      tag := hs.tag
      free := by
        have := State.entry?_setEntry (f := fun e =>
          { e with state := .answered, forward := none, ctx := none, data := [], response := some r }) (fun _ => rfl) s tag h.tag.toNat
        rw [hs.free] at this
        exact this
      slot := hs.slot
      current := hs.current
      waiting := hs.waiting }

/-- A completion at once, before the START that brought it is answered (R102, R112). A STOP that awaits under the START's
own tag is answered with the START's entry, which takes one answer alone. -/
theorem State.Serves.completes (hs : s.Serves h) {record : List Byte} (hr : record ≠ []) {u : State} {t : Nat} {p : PortId}
    (target : u.job.target = some t) (spare : u.job.spare = some p) (hu : u.Serves h)
    (taken : (s.taking h).takeCommand h.tag.toNat record =
      (answerAfter [.examine] h.tag.toNat (.plain .good), (u.taking h).complete)) :
    receive (.manage h record) s = .next (u.complete.mgmtDone h) := by
  have done : (u.completed t p).Serves h := hu.completed t p
  obtain ⟨awaits, state⟩ : (u.completed t p).job.awaiting = u.job.awaiting ∧ (u.completed t p).job.state = .done := by
    obtain ⟨tx, roles, ports, notices, e⟩ := u.completed_frame t p
    rw [e]
    exact ⟨rfl, rfl⟩
  let v : State := { u.completed t p with job := { (u.completed t p).job with awaiting := none } }
  have served : v.Serves h := done.of_same done.timer rfl rfl rfl rfl rfl rfl rfl rfl
  rw [State.complete_eq (s := u.taking h) target spare, State.taking_completed] at taken
  by_cases own : u.job.awaiting = some h.tag.toNat
  · have alone : u.complete = v := by
      rw [State.complete_eq target spare, State.answerStop_good (awaits.trans own), State.answer, if_neg]
      show ¬ (v.entry? h.tag.toNat).any _ = true
      rw [served.free]
      exact Bool.false_ne_true
    have answered : (((u.completed t p).taking h).answerStop .good) = (v.taking h).answer h.tag.toNat (.plain .good) :=
      State.answerStop_good (s := (u.completed t p).taking h) (awaits.trans own)
    have quiet : ((v.taking h).answer h.tag.toNat (.plain .good)).noLaunch := State.noLaunch_of_not_active (by
      rw [State.answer_job]
      show (u.completed t p).job.state ≠ _
      rw [state]; simp)
    rw [alone]
    apply receive_manage hs hr
    rw [taken, answered, answerAfter, List.append_assoc, quiet.brings _ _ (by decide), List.cons_append,
      run_step (more := []) (by decide) (congrArg (Prod.mk []) (State.answer_answer _ _ _ _))]
    exact run_answered (by decide) served (.plain .good)
  · rw [State.taking_answerStop_good (awaits ▸ own), ← State.complete_eq target spare] at taken
    have served' : u.complete.Serves h := by
      rw [State.complete_eq target spare]
      cases awaiting : u.job.awaiting with
      | none => rw [State.answerStop_of_none (awaits.trans awaiting)]; exact done
      | some tag =>
        rw [State.answerStop_good (awaits.trans awaiting)]
        exact served.answer tag _
    have quiet : (u.complete.taking h).noLaunch := State.noLaunch_of_not_active (by
      show u.complete.job.state ≠ _
      rw [(State.complete_spec target spare).1]
      simp)
    exact hs.answers_after hr taken quiet.brings (by decide) served'

/-! ## The start -/

/-- An accepted start that goes ACTIVE, with no launch to follow (R102, R105). -/
theorem State.Serves.starts (hs : s.Serves h) {record : List Byte} (hr : record ≠ []) {u : State}
    (other : u.job.state ≠ .active) (hu : u.Serves h)
    (quiet : u.job.n ∉ u.job.ahead ∧ u.pacing.credit < u.width ∧ u.job.n ≠ u.stripeCount)
    (taken : (s.taking h).takeCommand h.tag.toNat record =
      (answerAfter [.examine] h.tag.toNat (.plain .good), (u.taking h).jobTo .active .command)) :
    receive (.manage h record) s = .next ((({ u with job := { u.job with state := .active, cause := .command } } :
      State).notify (.jobState .active .command u.job.w)).mgmtDone h) := by
  rw [State.taking_jobTo] at taken
  obtain ⟨ahead, credit, cursor⟩ := quiet
  have started : (u.jobTo .active .command).Serves h := by
    refine hu.of_same (State.settleDue_of_not_armed (by simp)) ?_ ?_ ?_ ?_ ?_ ?_ ?_ ?_
    all_goals simp
  have stays : (u.jobTo .active .command).noLaunch := by
    intro _
    simpa [State.width, State.stripeCount] using And.intro credit (And.intro ahead (Or.inl cursor))
  rw [← State.jobTo_of_ne other]
  exact hs.answers_after hr taken (State.noLaunch.brings (s := (u.jobTo .active .command).taking h) stays) (by decide) started

/-- With no settle timer running none is due (R35). -/
theorem State.settleDue_of_no_timer (none_ : s.job.settle = none) : s.settleDue = false := by
  unfold State.settleDue
  split
  · next timer _ => rw [none_] at timer; cases timer
  · rfl

/-- What a start has written before the job goes ACTIVE hinders no command (R102). -/
theorem State.Serves.begun (hs : s.Serves h) (m : Nat) (p : PortId) (r : Nat) (fresh : Bool) :
    (s.begun m p r fresh).Serves h := by
  have timer : (s.begun m p r fresh).settleDue = false := State.settleDue_of_no_timer (by cases fresh <;> rfl)
  cases fresh <;> exact hs.of_same timer rfl rfl rfl rfl rfl rfl rfl rfl

theorem State.taking_begun (m : Nat) (p : PortId) (r : Nat) (fresh : Bool) :
    (s.taking h).begun m p r fresh = (s.begun m p r fresh).taking h := by cases fresh <;> rfl

/-- START_REBUILD once its checks have passed: the completion at once, or the launch-free start (R102). -/
theorem State.Serves.accepts_start (hs : s.Serves h) {m p : Byte} {r : Option Nat} {params : List Byte} {q : PortId}
    {resume : Nat} (parsed : parseStart params = some (m, p, r)) (checks : s.startChecks m p r = .ok (q, resume))
    (other : s.job.state ≠ .active) {u : State} (begun : s.begun m.toNat q resume s.job.state.fresh = u)
    (target : u.job.target = some m.toNat) (spare : u.job.spare = some q) :
    (resume = s.stripeCount → receive (.manage h (0x09 :: params)) s = .next (u.complete.mgmtDone h)) ∧
    (resume < s.stripeCount → resume ∉ s.job.ahead → s.pacing.credit < s.width →
      receive (.manage h (0x09 :: params)) s = .next ((({ u with job := { u.job with state := .active, cause := .command } } :
        State).notify (.jobState .active .command resume)).mgmtDone h)) := by
  have hu : u.Serves h := begun ▸ hs.begun _ _ _ _
  have taken : (s.taking h).takeCommand h.tag.toNat (0x09 :: params) = (answerAfter [.examine] h.tag.toNat (.plain .good),
      if resume = s.stripeCount then (u.taking h).complete else (u.taking h).jobTo .active .command) := by
    show (s.taking h).takeStart h.tag.toNat params = _
    simp only [State.takeStart, parsed, show (s.taking h).startChecks m p r = _ from checks, State.start_eq,
      State.taking_begun, show (s.taking h).job.state = s.job.state from rfl, begun]
    rfl
  refine ⟨fun whole => ?_, fun within ahead credit => ?_⟩
  · rw [if_pos whole] at taken
    exact hs.completes (List.cons_ne_nil _ _) target spare hu taken
  · rw [if_neg (by omega)] at taken
    obtain ⟨w, n, aheadU, pacing, state, count, width⟩ : u.job.w = resume ∧ u.job.n = resume ∧ u.job.ahead = s.job.ahead ∧
        u.pacing = s.pacing ∧ u.job.state = s.job.state ∧ u.stripeCount = s.stripeCount ∧ u.width = s.width := by
      rw [← begun]
      cases s.job.state.fresh <;> exact ⟨rfl, rfl, rfl, rfl, rfl, rfl, rfl⟩
    have started := hs.starts (List.cons_ne_nil _ _) (state ▸ other) hu
      ⟨by rw [n, aheadU]; exact ahead, by rw [pacing, width]; exact credit, by rw [n, count]; omega⟩ taken
    rw [w] at started
    exact started

end Sys2Proof.Machine

open Sys2Proof Sys2Proof.Machine

/-- Settles O34: the checks one by one, then the start by its resume stripe (R102, R167). -/
theorem startRebuild : Obligations.StartRebuild := by
  intro s h m p r params serves parsed result fresh bound refused
  have isFresh : s.job.state.fresh = true ↔ fresh := by
    simp only [fresh]
    cases s.job.state <;> simp [JobState.fresh]
  have notFresh (isBound : bound) : ¬ s.job.state.fresh = true := by
    rcases isBound with e | e <;> simp [e, JobState.fresh]
  have starts : (s.job.state.fresh || s.job.state == .stopped || s.job.state == .halted) = true ↔ fresh ∨ bound := by
    simp only [fresh, bound]
    cases s.job.state <;> simp [JobState.fresh]
  have refuses {st : Status} (e : s.startChecks m p r = .error st) : refused st := by
    refine serves.refuses (List.cons_ne_nil _ _) ?_
    show (s.taking h).takeStart h.tag.toNat params = _
    simp only [State.takeStart, parsed, show (s.taking h).startChecks m p r = _ from e]
  refine ⟨fun notFresh notBound => refuses ?_, fun startable high => refuses ?_, fun q hq startable => ?_⟩
  · rw [State.startChecks, if_pos]
    simpa using mt starts.1 (not_or.2 ⟨notFresh, notBound⟩)
  · simp only [State.startChecks, starts.2 startable, Bool.not_true, Bool.false_eq_true, if_false,
      portOfByte_of_high high]
  have checks : s.startChecks m p r =
      if s.width ≤ m.toNat then .error .noMember
      else if s.failedMembers ≠ [m.toNat] then .error .state
      else if (s.port q).role ≠ .spare ∨ (s.port q).health ≠ .online then .error .spareUnfit
      else if s.job.state.fresh then
        if s.stripeCount < r.getD 0 then .error .range else .ok (q, r.getD 0)
      else if s.job.target ≠ some m.toNat ∨ s.job.spare ≠ some q then .error .range
      else if s.job.w < r.getD s.job.w then .error .range
      else .ok (q, r.getD s.job.w) := by
    simp only [State.startChecks, starts.2 startable, Bool.not_true, Bool.false_eq_true, if_false, portOfByte_of_val hq]
  refine ⟨fun absent => refuses (checks.trans (if_pos absent)), fun member unfailed => refuses ?_,
    fun member failed unfit => refuses ?_, fun member failed role online => ?_⟩
  · rw [checks, if_neg (by omega), if_pos unfailed]
  · rw [checks, if_neg (by omega), if_neg (not_not.2 failed), if_pos unfit]
  rw [if_neg (by omega), if_neg (not_not.2 failed), if_neg (by simp [role, online])] at checks
  refine ⟨fun isBound mismatch => refuses ?_, fun isBound target spare beyond => refuses ?_,
    fun isFresh_ beyond => refuses ?_, ?_⟩
  · rw [checks, if_neg (notFresh isBound), if_pos mismatch]
  · rw [checks, if_neg (notFresh isBound), if_neg (by simp [target, spare]), if_pos beyond]
  · rw [checks, if_pos (isFresh.2 isFresh_), if_pos beyond]
  · intro accepted
    have other : s.job.state ≠ .active := by
      intro active
      simp [fresh, bound, active] at startable
    refine ⟨fun isFresh_ within => ?_, fun isBound target spare within => ?_⟩
    · rw [if_pos (isFresh.2 isFresh_), if_neg (by omega)] at checks
      exact serves.accepts_start parsed checks other (by rw [isFresh.2 isFresh_]; rfl) rfl rfl
    · rw [if_neg (notFresh isBound), if_neg (by simp [target, spare]), if_neg (by omega)] at checks
      refine serves.accepts_start parsed checks other ?_ rfl rfl
      rw [Bool.eq_false_iff.2 (notFresh isBound), State.setPort_self, State.begun, ← target, ← spare]

end

section
/-! SUPPORT. COMMIT_MAP and the installation of the staged map (R4 to R6, R165). -/
namespace Sys2Proof.Machine

variable {s : State} {h : Header}

/-! ## The conditions on a map (R4) -/

/-- The index a role carries. -/
def Role.index? : Role → Option Nat
  | .member i => some i
  | .spare | .unused => none

theorem Role.index?_eq_some {r : Role} {i : Nat} : r.index? = some i ↔ r = .member i := by
  cases r <;> simp [Role.index?]

theorem MemberMap.indices_eq (m : MemberMap) : m.indices = allPorts.filterMap (fun p => (m.roles.get p).index?) := by
  have ports : m.roles.toList = allPorts.map m.roles.get := by
    apply List.ext_getElem
    · simp [allPorts]
    · intro i inside _
      have : i < 10 := by simpa using inside
      interval_cases i <;> rfl
  rw [MemberMap.indices, ports, List.filterMap_map]
  rfl

theorem MemberMap.mem_indices {m : MemberMap} {i : Nat} : i ∈ m.indices ↔ ∃ p, m.roles.get p = .member i := by
  simp only [MemberMap.indices_eq, List.mem_filterMap, mem_allPorts, true_and, Role.index?_eq_some]

/-- The indices of a map are all different exactly where no two ports carry one index. -/
theorem MemberMap.nodup_indices {m : MemberMap} :
    m.indices.Nodup ↔ ∀ p q i, m.roles.get p = .member i → m.roles.get q = .member i → q = p := by
  rw [MemberMap.indices_eq]
  constructor
  · intro nodup p q i hp hq
    by_contra other
    have symm : Std.Symm (fun a b : PortId => ∀ i, (m.roles.get a).index? = some i → ∀ j, (m.roles.get b).index? = some j →
        i ≠ j) := ⟨fun a b h i hi j hj => (h j hj i hi).symm⟩
    have apart := (List.pairwise_filterMap.1 nodup).forall (mem_allPorts p) (mem_allPorts q) (Ne.symm other)
    exact apart i (Role.index?_eq_some.2 hp) i (Role.index?_eq_some.2 hq) rfl
  · intro once
    have ports : allPorts.Nodup := allPorts_ascending.imp (fun h => ne_of_lt h)
    exact ports.filterMap (fun p q i hp hq =>
      (once p q i (Role.index?_eq_some.1 hp) (Role.index?_eq_some.1 hq)).symm)

/-- The conditions of the table on a map that may be committed (R4). -/
theorem MemberMap.valid_iff (m : MemberMap) : m.valid = true ↔ 3 ≤ m.width ∧ m.width ≤ 9 ∧ 1 ≤ m.stripeCount ∧
    m.stripBlocks ∈ [8, 16, 32, 64] ∧ (∀ i p, m.roles.get p = .member i → i < m.width) ∧
    (∀ i, i < m.width → ∃ p, m.roles.get p = .member i ∧ ∀ q, m.roles.get q = .member i → q = p) := by
  have blocks : stripBlocksValid m.stripBlocks = true ↔ m.stripBlocks ∈ [8, 16, 32, 64] := by
    simp [stripBlocksValid, or_assoc]
  have once : m.indices.length = m.width ∧ (∀ i, i < m.width → i ∈ m.indices) ↔
      (∀ i p, m.roles.get p = .member i → i < m.width) ∧
      (∀ i, i < m.width → ∃ p, m.roles.get p = .member i ∧ ∀ q, m.roles.get q = .member i → q = p) := by
    constructor
    · rintro ⟨length, all⟩
      have perm : (List.range m.width).Perm m.indices :=
        (List.subperm_of_subset List.nodup_range (fun i hi => all i (List.mem_range.1 hi))).perm_of_length_le
          (by simp [length])
      have unique := MemberMap.nodup_indices.1 (perm.nodup_iff.1 List.nodup_range)
      refine ⟨fun i p hp => List.mem_range.1 (perm.mem_iff.2 (MemberMap.mem_indices.2 ⟨p, hp⟩)), fun i hi => ?_⟩
      obtain ⟨p, hp⟩ := MemberMap.mem_indices.1 (all i hi)
      exact ⟨p, hp, fun q hq => unique p q i hp hq⟩
    · rintro ⟨inside, one⟩
      have nodup : m.indices.Nodup := MemberMap.nodup_indices.2 (fun p q i hp hq => by
        obtain ⟨r, -, only⟩ := one i (inside i p hp)
        rw [only p hp, only q hq])
      have members (i : Nat) : i ∈ m.indices ↔ i ∈ List.range m.width := by
        rw [MemberMap.mem_indices, List.mem_range]
        exact ⟨fun ⟨p, hp⟩ => inside i p hp, fun hi => (one i hi).imp fun _ h => h.1⟩
      have perm := (List.perm_ext_iff_of_nodup nodup List.nodup_range).2 members
      exact ⟨by rw [perm.length_eq, List.length_range], fun i hi => (members i).2 (List.mem_range.2 hi)⟩
  simp only [MemberMap.valid, Bool.and_eq_true, decide_eq_true_eq, beq_iff_eq, List.all_eq_true, List.contains_iff_mem,
    List.mem_range, blocks]
  constructor
  · rintro ⟨⟨⟨⟨⟨wide, narrow⟩, length⟩, all⟩, count⟩, strip⟩
    exact ⟨wide, narrow, count, strip, once.1 ⟨length, all⟩⟩
  · rintro ⟨wide, narrow, count, strip, inside⟩
    obtain ⟨length, all⟩ := once.2 inside
    exact ⟨⟨⟨⟨⟨wide, narrow⟩, length⟩, all⟩, count⟩, strip⟩

/-! ## Installation (R5, R6) -/

/-- The state with another table and another command in progress. -/
def State.beside (s : State) (table : List InFlight) (current : Option (Nat × Phase)) : State :=
  { s with table, target := { s.target with current } }

theorem State.notify_beside (table : List InFlight) (current : Option (Nat × Phase)) (n : Notice) :
    (s.beside table current).notify n = (s.notify n).beside table current := by
  rw [State.notify_congr (s := s) (t := s.beside table current) rfl rfl rfl]
  conv_rhs => rw [State.notify_congr (s := s) (t := s) rfl rfl rfl]
  rfl

/-- The staged map written: the ports' roles, marks and health, the job, the milestones (R5, R6). -/
def State.mapWritten (s : State) : State :=
  let m := s.target.staged
  let ports : Vector Port 10 := Vector.ofFn (fun p => { s.port p with
    role := m.roles.get p, bound := false
    health := match m.roles.get p, (s.port p).health with
      | .member _, .absent => .failed
      | _, health => health })
  { s with
    target := { s.target with committed := m }, ports
    job := { s.job with state := .idle, cause := .command, target := none, armed := none, spare := none, w := 0, n := 0
                        window := [], ahead := [], settle := none }
    notices := { s.notices with milestones := s.notices.milestones.filter (fun e => e.target ≤ m.stripeCount) } }

/-- The notice of a port that the staged map of state s makes a member while its link is down (R6). -/
def State.tellAbsent (s t : State) (p : PortId) : State :=
  match s.target.staged.roles.get p, (s.port p).health with
  | .member i, .absent => t.notify (.memberFailed p i .link)
  | _, _ => t

/-- The staged map installed: written, with the notice of a DONE job and those of the ports it fails (R5, R6). -/
def State.mapInstalled (s : State) : State :=
  allPorts.foldl s.tellAbsent (if s.job.state = .done then s.mapWritten.notify (.jobState .idle .command 0) else s.mapWritten)

theorem Port.installed_eq (x : Port) (r : Role) : x.installed r = { x with
    role := r, bound := false
    health := match r, x.health with
      | .member _, .absent => .failed
      | _, health => health } := by
  unfold Port.installed Port.memberIndex
  cases r <;> cases x.health <;> rfl

/-- The installation from a job that lets a map be committed (R4, R5, R6). -/
theorem State.installMap_eq (commits : s.job.state = .idle ∨ s.job.state = .done) : s.installMap = s.mapInstalled := by
  have notices (t : State) : (allPorts.filterMap (fun p => installNotice p (s.port p) (s.target.staged.roles.get p))).foldl
      (fun t n => t.notify n) t = allPorts.foldl s.tellAbsent t := by
    rw [List.foldl_filterMap]
    congr 1
    funext t p
    unfold State.tellAbsent
    cases s.target.staged.roles.get p with
    | member i => cases health : (s.port p).health <;> simp [installNotice, health]
    | spare | unused => rfl
  rw [State.installMap]
  dsimp only
  rw [notices, State.mapInstalled]
  congr 1
  simp only [Port.installed_eq]
  rcases commits with idle | done
  · rw [if_neg (by simp [idle]), State.jobIdle, State.jobTo, if_pos idle]
    rfl
  · rw [if_pos done, State.jobIdle_of_ne (by simp [done])]
    rfl

theorem State.mapInstalled_beside (table : List InFlight) (current : Option (Nat × Phase)) :
    (s.beside table current).mapInstalled = s.mapInstalled.beside table current := by
  have all (ps : List PortId) (t : State) : ps.foldl s.tellAbsent (t.beside table current) =
      (ps.foldl s.tellAbsent t).beside table current := by
    induction ps generalizing t with
    | nil => rfl
    | cons p ps ih =>
      rw [List.foldl_cons, List.foldl_cons, ← ih]
      congr 1
      unfold State.tellAbsent
      split
      · exact State.notify_beside table current _
      · rfl
  have start : (if s.job.state = .done then (s.mapWritten.beside table current).notify (.jobState .idle .command 0)
      else s.mapWritten.beside table current) =
        (if s.job.state = .done then s.mapWritten.notify (.jobState .idle .command 0) else s.mapWritten).beside table
          current := by
    rw [State.notify_beside]
    split <;> rfl
  exact (congrArg (allPorts.foldl s.tellAbsent) start).trans (all allPorts _)

/-- An installation leaves the channel but for the transmitter, the table, the engine and the clock (R5). -/
theorem State.mapInstalled_frame (s : State) : ∃ tx ports notices, s.mapInstalled = { s with
    channel := { s.channel with tx }, ports, notices, target := { s.target with committed := s.target.staged }
    job := { s.job with state := .idle, cause := .command, target := none, armed := none, spare := none, w := 0, n := 0
                        window := [], ahead := [], settle := none } } := by
  have told (t : State) (p : PortId) : t.Notified (s.tellAbsent t p) := by
    unfold State.tellAbsent
    split
    · exact State.notify_notified _ _
    · exact .refl t
  have all (ps : List PortId) (t : State) : t.Notified (ps.foldl s.tellAbsent t) := by
    induction ps generalizing t with
    | nil => exact .refl t
    | cons p ps ih => exact (told t p).trans (ih _)
  have start : s.mapWritten.Notified
      (if s.job.state = .done then s.mapWritten.notify (.jobState .idle .command 0) else s.mapWritten) := by
    split
    · exact State.notify_notified _ _
    · exact .refl _
  obtain ⟨tx, queue, lost, e⟩ := start.trans (all allPorts _)
  exact ⟨tx, _, _, e⟩

/-! ## COMMIT_MAP (R4, R165) -/

/-- The commit in its drain, as its command leaves it (R165). -/
def State.draining (s : State) (h : Header) : State :=
  s.beside (s.table ++ [{ newEntry .manage h [] with state := .issued }]) (some (h.tag.toNat, .draining))

/-- COMMIT_MAP of a map that fails no condition, from a job that lets it be committed (R4). -/
theorem State.takeCommitMap_accepted (commits : s.job.state = .idle ∨ s.job.state = .done)
    (valid : s.target.staged.valid = true) :
    (s.taking h).takeCommitMap h.tag.toNat [] = ([], s.draining h) := by
  have committable : (s.taking h).job.state.committable = true := by
    rcases commits with e | e <;> simp [State.taking, State.addEntry, e, JobState.committable]
  have staged : (s.taking h).target.staged.valid = true := valid
  simp only [State.takeCommitMap, committable, staged, ne_eq, not_true, if_false, Bool.not_true, Bool.false_eq_true]
  rfl

/-- The report to a COMMIT_MAP whose drain is over, at once (R5, R165). -/
theorem State.Serves.installs (hs : s.Serves h) (commits : s.job.state = .idle ∨ s.job.state = .done)
    (valid : s.target.staged.valid = true) (drained : s.drained = true) :
    receive (.manage h [0x04]) s = .next (s.mapInstalled.mgmtDone h) := by
  obtain ⟨tx, ports, notices, frame⟩ := s.mapInstalled_frame
  have served : s.mapInstalled.Serves h := by
    rw [frame]
    exact hs.of_same (State.settleDue_of_not_armed (by simp)) rfl rfl rfl rfl rfl rfl rfl rfl
  obtain ⟨table, current⟩ : s.mapInstalled.table = s.table ∧ s.mapInstalled.target.current = none := by
    rw [frame]
    exact ⟨rfl, hs.current⟩
  have passed : (s.draining h).drained = true :=
    (drained_append (e := { newEntry .manage h [] with state := .issued }) rfl (by simp [InFlight.openMember, newEntry])).trans
      drained
  have ready : (s.draining h).commitReady = some h.tag.toNat := by
    simp only [State.commitReady, passed, if_true]
    rfl
  have committable : (s.draining h).job.state.committable = true := by
    show s.job.state.committable = true
    rcases commits with e | e <;> rw [e] <;> rfl
  let busy : State := { s.mapInstalled with
    target := { s.mapInstalled.target with current := some (h.tag.toNat, .draining) } }
  have answered : (s.draining h).installMap.answer h.tag.toNat (.plain .good) =
      busy.withAnswered { newEntry .manage h [] with state := .issued } (.plain .good) := by
    have installed : (s.draining h).installMap = busy.addEntry { newEntry .manage h [] with state := .issued } := by
      rw [State.installMap_eq (s := s.draining h) commits, State.draining, State.mapInstalled_beside, ← table]
      rfl
    rw [installed]
    exact State.answer_addEntry (s := busy) (e := { newEntry .manage h [] with state := .issued }) served.free served.up rfl _
  have report : handle .settle (s.draining h) = ([.nextCommand, .settle], (s.draining h).installMap.answer h.tag.toNat
      (.plain .good)) := by
    simp only [handle, State.settle, ready, Option.isSome_some, if_true, State.installReport, committable]
    rfl
  have next : handle .nextCommand (busy.withAnswered { newEntry .manage h [] with state := .issued } (.plain .good)) =
      ([], s.mapInstalled.mgmtDone h) := by
    have waiting : (busy.withAnswered { newEntry .manage h [] with state := .issued } (.plain .good)).target.waiting = [] :=
      served.waiting
    have target : ({ s.mapInstalled.target with current := none, waiting := [] } : Target) = s.mapInstalled.target := by
      rw [← current, ← served.waiting]
    simp only [handle, State.nextCommand, waiting]
    exact congrArg (fun x => (([] : List Work), { s.mapInstalled.mgmtDone h with target := x })) target
  apply receive_manage hs (List.cons_ne_nil _ _)
  rw [show (s.taking h).takeCommand h.tag.toNat [0x04] = _ from State.takeCommitMap_accepted commits valid, List.nil_append,
    run_step (by decide) report, List.append_nil, answered, run_step (by decide) next, List.nil_append,
    State.mgmtDone, State.withMgmt, run_end (by decide) (served.toRests.withAnswered _ _),
    State.transmit_of_busy (s := s.mapInstalled.withAnswered _ _) rfl]

/-- A COMMIT_MAP that finds a member request open waits for the router's report (R165). -/
theorem State.Serves.awaits_report (hs : s.Serves h) (commits : s.job.state = .idle ∨ s.job.state = .done)
    (valid : s.target.staged.valid = true) (open_ : s.drained = false) :
    receive (.manage h [0x04]) s = .next (s.draining h).transmit := by
  have waits : (s.draining h).drained = false :=
    (drained_append (e := { newEntry .manage h [] with state := .issued }) rfl (by simp [InFlight.openMember, newEntry])).trans
      open_
  have commit : (s.draining h).commitReady = none := by
    simp only [State.commitReady, waits, Bool.false_eq_true, if_false]
    split <;> rfl
  have rests : (s.draining h).Rests := hs.toRests.of_same hs.timer commit rfl rfl rfl rfl
  apply receive_manage hs (List.cons_ne_nil _ _)
  rw [show (s.taking h).takeCommand h.tag.toNat [0x04] = _ from State.takeCommitMap_accepted commits valid, List.nil_append,
    run_end (by decide) rests]

/-- The router's report to the COMMIT_MAP that waits for it (R5, R45, R165): what it leaves is answered, with the next
command taken. -/
theorem exec_report {tag : Nat} {u : State} {st : Status} (ready : s.commitReady = some tag)
    (report : s.installReport = ([.nextCommand], u.answer tag (.plain st)))
    (owed : u.engine.owed = none) (up : u.channel.up = true) (link : u.channel.linkFrames = [])
    (stall : ∀ c, (u.ctx c).stalled = false) (timer : u.settleDue = false) (waiting : u.target.waiting = [])
    (issued : ∃ r, u.entry? tag = some r ∧ r.state = .issued) : exec .mapInstallation s = .next
      ({ u with target := { u.target with current := none } }.withResponse tag (.plain st)) := by
  obtain ⟨r, found, isIssued⟩ := issued
  have answered := State.answer_issued up found isIssued (.plain st)
  have next : handle .nextCommand (u.withResponse tag (.plain st)) =
      ([], { u with target := { u.target with current := none } }.withResponse tag (.plain st)) := by
    simp only [handle, State.nextCommand, State.withResponse, waiting]
  have rests : State.Rests { u with target := { u.target with current := none } } :=
    { up := up, link := link, commit := rfl, stall := stall, timer := timer, owed := owed }
  show execMapInstallation s = _
  rw [execMapInstallation, if_pos (by rw [ready]; rfl), report, answered]
  apply cascade_eq_of_owed (s := u.withResponse tag (.plain st)) owed
  rw [List.cons_append, List.nil_append, run_step (by decide) next, List.nil_append]
  exact run_end_withResponse (by decide) rests rfl tag _

end Sys2Proof.Machine

open Sys2Proof Sys2Proof.Machine

/-- Settles O51: the checks, the installation at once, the wait for the report, and the report (R4 to R6, R165). -/
theorem mapCommitted : Obligations.MapCommitted := by
  intro s m index valid commits ports written told installed
  have isValid : s.target.staged.valid = true ↔ valid := s.target.staged.valid_iff
  have installed_eq : s.mapInstalled = installed := rfl
  refine ⟨fun h serves => ⟨fun busy => ?_, fun free invalid => ?_, fun free fits drained => ?_, fun free fits open_ => ?_⟩,
    fun tag up link stall owed issued current waiting drained => ⟨fun free => ?_, fun busy timer => ?_⟩, fun none_ => ?_⟩
  · refine serves.refuses (List.cons_ne_nil _ _) ?_
    show (s.taking h).takeCommitMap h.tag.toNat [] = _
    have committable : (s.taking h).job.state.committable = false := by
      show s.job.state.committable = false
      simp only [commits] at busy
      revert busy
      cases s.job.state <;> simp [JobState.committable]
    simp only [State.takeCommitMap, committable, ne_eq, not_true, if_false, Bool.not_false, if_true]
  · refine serves.refuses (List.cons_ne_nil _ _) ?_
    show (s.taking h).takeCommitMap h.tag.toNat [] = _
    have committable : (s.taking h).job.state.committable = true := by
      show s.job.state.committable = true
      rcases free with e | e <;> rw [e] <;> rfl
    have staged : (s.taking h).target.staged.valid = false := by
      rw [← Bool.not_eq_true]
      exact mt isValid.1 invalid
    simp only [State.takeCommitMap, committable, staged, ne_eq, not_true, if_false, Bool.not_true, Bool.not_false,
      Bool.false_eq_true, if_true]
  · exact serves.installs free (isValid.2 fits) drained
  · exact serves.awaits_report free (isValid.2 fits) open_
  · have ready : s.commitReady = some tag := by simp only [State.commitReady, current, drained, if_true]
    have committable : s.job.state.committable = true := by rcases free with e | e <;> rw [e] <;> rfl
    have report : s.installReport = ([.nextCommand], s.mapInstalled.answer tag (.plain .good)) := by
      simp only [State.installReport, ready, committable, if_true, State.installMap_eq free]
      rfl
    rw [← installed_eq]
    obtain ⟨tx, ports, notices, frame⟩ := s.mapInstalled_frame
    refine exec_report ready report ?_ ?_ ?_ ?_ (State.settleDue_of_not_armed ?_) ?_ ?_
    all_goals rw [frame]
    · exact owed
    · exact up
    · exact link
    · exact stall
    · simp
    · exact waiting
    · exact issued
  · have ready : s.commitReady = some tag := by simp only [State.commitReady, current, drained, if_true]
    have committable : s.job.state.committable = false := by
      simp only [commits] at busy
      revert busy
      cases s.job.state <;> simp [JobState.committable]
    have report : s.installReport = ([.nextCommand], (s.latch .state).answer tag (.plain .state)) := by
      simp only [State.installReport, ready, committable, Bool.false_eq_true, if_false]
      rfl
    exact exec_report ready report owed up link stall timer waiting issued
  · have ready : s.commitReady = none := by
      unfold State.commitReady
      rcases none_ with other | open_
      · split
        · next tag e => exact absurd e (other tag)
        · rfl
      · simp only [open_, Bool.false_eq_true, if_false]
        split <;> rfl
    show execMapInstallation s = _
    rw [execMapInstallation, ready]
    rfl

end

section
/-! SUPPORT. The end and the halt of a bound job (R104, R115, R117), arming (R35) and the settle timer's expiry (R36). -/
namespace Sys2Proof.Machine

variable {s : State} {h : Header}

/-! ## Transitions with no SWEEP or FILL context in use -/

/-- With no context named, abandonment changes nothing. -/
theorem State.abandon_nil (s : State) : s.abandon [] = s := by
  have port : s.mapPorts (·.orphanCtxs []) = s := by
    have same (x : Port) : x.orphanCtxs [] = x := by
      have orig (e : ListEntry) : ({ e with op := { e.op with orig := e.op.orig.orphanCtxs [] } } : ListEntry) = e := by
        rw [Originator.orphanCtxs_of_not_mem (fun c n mem => absurd mem List.not_mem_nil)]
      have kept (op : DriveOp) : (!op.ofCtxs []) = true :=
        DriveOp.ofCtxs_eq_false_iff.2 (fun c n mem => absurd mem List.not_mem_nil)
      unfold Port.orphanCtxs
      simp only [orig, List.map_id', List.filter_eq_self.2 (fun op _ => kept op)]
    have ports : s.ports.map (·.orphanCtxs []) = s.ports := by
      apply Vector.ext
      intro i hi
      rw [Vector.getElem_map, same]
    rw [State.mapPorts, ports]
  have blanked : s.blanked [] = s.engine.ctxs := by
    apply Vector.ext; intro i hi; simp [State.blanked, State.ctx, Vector.get]
  have owed : s.engine.owed.filter (fun c => !([] : List CtxId).contains c) = s.engine.owed := by
    cases s.engine.owed <;> rfl
  rw [State.abandon, port, State.freeCtxs_eq, blanked, owed]
  simp [State.heldBy]

theorem State.sweepCtxs_eq_nil (none_ : ∀ c, (s.ctx c).state ≠ .free → (s.ctx c).kind ≠ .sweep) : s.sweepCtxs = [] := by
  rw [List.eq_nil_iff_forall_not_mem]
  intro c mem
  obtain ⟨used, sweep⟩ := State.mem_sweepCtxs.1 mem
  exact none_ c used sweep

theorem State.heldBy_nil (s : State) : s.heldBy [] = [] := by simp [State.heldBy]

theorem State.dropWindow_of_empty (window : s.job.window = []) :
    s.dropWindow = { s with job := { s.job with window := [], ahead := [] } } := by
  rw [State.dropWindow, window]
  rfl

/-- With an empty window and no STOP awaiting, a second fault halts the job with its notice (R115). -/
theorem State.secondFault_halts (sweeps : s.sweepCtxs = []) (window : s.job.window = []) (awaiting : s.job.awaiting = none)
    (other : s.job.state ≠ .halted) : s.secondFault = ([.arbiter, .examine], ({ s with job := { s.job with
      window := [], ahead := [], n := s.job.w, state := .halted, cause := .secondFault } } : State).notify
        (.jobState .halted .secondFault s.job.w)) := by
  simp only [State.secondFault, sweeps, State.abandon_nil, State.heldBy_nil, State.dropWindow_of_empty window]
  rw [State.jobTo_of_ne (by simpa using other), State.answerStop_of_none (by simpa using awaiting)]
  rfl

/-- With an empty window and no STOP awaiting, a bound job that ends goes IDLE with its notice, its spare unmarked (R104,
R117). -/
theorem State.jobEnds_quiet {p : PortId} (spare : s.job.spare = some p) (window : s.job.window = [])
    (awaiting : s.job.awaiting = none) (other : s.job.state ≠ .idle) (cause : JobCause) : s.jobEnds cause =
      ({ s.setPort p { s.port p with bound := false } with job := { s.job with
        state := .idle, cause, target := none, spare := none, armed := none, settle := none, w := 0, n := 0, window := []
        ahead := [] } } : State).notify (.jobState .idle cause 0) := by
  have unbound : s.dropWindow.unbind = { s.setPort p { s.port p with bound := false } with
      job := { s.job with window := [], ahead := [] } } := by
    simp only [State.dropWindow_of_empty window, State.unbind, spare]
    rfl
  rw [State.jobEnds, unbound]
  dsimp only
  rw [State.jobIdle_of_ne (by simpa using other), State.answerStop_of_none (by simpa using awaiting)]

/-- Nobody waits for a context: the arbiter offers nothing (R80). -/
theorem State.arbitrate_of_empty (empty : s.engine.waitList = []) : s.arbitrate = ([], s) := by
  simp only [State.arbitrate, empty]

/-- What follows freed contexts that nobody waits for, outside ACTIVE (R69, R80, R95). -/
theorem Brings.afterFree (empty : s.engine.waitList = []) (quiet : s.noLaunch) : Brings 2 [.arbiter, .examine] s s :=
  .step (State.arbitrate_of_empty empty) quiet.brings

/-! ## The transmitter at rest -/

/-- A transmitter at rest depends on the channel, the notices and the clock alone (R59). -/
theorem State.txRests.of_same {t : State} (hs : s.txRests) (channel : t.channel = s.channel)
    (notices : t.notices = s.notices) (now : t.now = s.now) : t.txRests := by
  unfold State.txRests State.gapElapsed at hs ⊢
  rw [channel, notices, now]
  exact hs

theorem State.txRests.notify (hs : s.txRests) (up : s.channel.up = true) (n : Notice) : (s.notify n).txRests := by
  rcases s.notify_cases n with ⟨-, e⟩ | ⟨-, e⟩ <;> rw [e]
  · exact hs
  · exact State.txRests_transmit _ up

/-- A bridge that is quiet after its last notice (R59). -/
theorem cascade_quiet {k : Nat} {work : List Work} {t : State} (h : Brings k work s t) (owed : s.engine.owed = none)
    (hk : k < Config.cascadeBound) (ht : t.Quiet) : cascade work s = .next t := by
  rw [h.cascade owed hk ht.toRests, State.transmit_of_rests _ ht.tx]

/-! ## Failing a member in a bound job -/

/-- A member's failure halts a swept job that rebuilds another (R115). -/
theorem State.sequencerFailure_second {p : PortId} {m t : Nat} (mark : (s.port p).bound = false)
    (role : (s.port p).role = .member m) (stopped : s.job.state = .stopped) (target : s.job.target = some t) (other : t ≠ m) :
    s.sequencerFailure p = s.secondFault := by
  have index : (s.port p).memberIndex = some m := Port.memberIndex_eq_some.2 role
  have different : ¬ some t = some m := by simpa using other
  simp only [State.sequencerFailure, mark, Bool.false_eq_true, if_false, index, stopped, target, if_neg different]

end Sys2Proof.Machine

open Sys2Proof Sys2Proof.Machine

/-- Settles O37: with no context to abandon, the transition's own writes and notices (R104, R115, R117). -/
theorem boundJobEnds : Obligations.BoundJobEnds := by
  refine ⟨fun s h b p t serves member port online mark all none_ stopped target other awaiting window empty sweeps => ?_,
    fun s p t quiet bound spare target mark role online list deferred awaiting window empty free off => ?_,
    fun s h serves => ⟨fun unbound => ?_, fun p bound spare awaiting window empty sweeps => ?_⟩⟩
  · intro failed halted
    let u := halted.notify (.jobState .halted .secondFault s.job.w)
    have failed_port : failed.port p = { s.port p with health := .failed } := by
      rw [State.notify_port, State.port_setPort_self]
    have failed_job : failed.job = s.job := State.notify_job _ _
    have u_port : u.port p = failed.port p := State.notify_port _ _
    have sequencer : (failed.taking h).sequencerFailure p = ([.arbiter, .examine], u.taking h) := by
      have sweeps' : (failed.taking h).sweepCtxs = [] := State.sweepCtxs_eq_nil (fun c => by
        rw [State.ctx_congr (show (failed.taking h).engine.ctxs = s.engine.ctxs by simp [failed, State.taking, State.addEntry]) c]
        exact sweeps c)
      rw [State.sequencerFailure_second (s := failed.taking h) (m := b.toNat) (t := t)
        (show (failed.port p).bound = false by rw [failed_port]; exact mark)
        (show (failed.port p).role = _ by rw [failed_port]; exact State.role_of_portOf port)
        (show failed.job.state = _ by rw [failed_job]; exact stopped)
        (show failed.job.target = _ by rw [failed_job]; exact target) other,
        State.secondFault_halts sweeps' (show failed.job.window = [] by rw [failed_job]; exact window)
          (show failed.job.awaiting = none by rw [failed_job]; exact awaiting)
          (show failed.job.state ≠ _ by rw [failed_job, stopped]; simp)]
      refine congrArg (Prod.mk _) ?_
      rw [show (failed.taking h).job.w = s.job.w by rw [← failed_job]; rfl]
      exact State.taking_notify (s := halted) _
    have u_engine : u.engine = s.engine := by simp [u, halted, failed]
    have followed : Brings 2 [.arbiter, .examine] (u.taking h) (u.taking h) :=
      .afterFree (s := u.taking h) (show u.engine.waitList = [] by rw [u_engine]; exact empty)
        (State.noLaunch_of_not_active (show u.job.state ≠ _ by simp [u, halted]))
    refine serves.fails_member member port online (.cons sequencer followed) (by decide)
      (by rw [u_port, failed_port]; exact all) (by rw [u_port, failed_port]; exact none_)
      (serves.of_same (u := u) (State.settleDue_of_not_armed (by simp [u, halted])) ?_ ?_ ?_ ?_ ?_ ?_ ?_ ?_)
    all_goals simp [u, halted, failed]
  · intro lost idle
    let u := idle.notify (.jobState .idle .spareLost 0)
    let down : Port := { s.port p with link := false, health := .failed }
    have lost_port : lost.port p = down := by rw [State.notify_port, State.port_setPort_self]
    have lost_job : lost.job = s.job := State.notify_job _ _
    have lost_engine : lost.engine = s.engine := by simp [lost]
    have other : s.job.state ≠ .idle := by intro e; rw [e] at bound; cases bound
    have fails : s.linkDown p = ([.sequencerFailure p, .emptyList p, .emptyDeferred p], lost) := by
      have needed : (s.port p).needed = true := by simp [Port.needed, mark]
      have failing : (s.setPort p { s.port p with link := false }).failingMember p = some t := by
        simp [State.failingMember, role, mark, target]
      rw [State.linkDown, if_pos online, if_pos needed]
      simp only [State.failPort, failing, if_true, State.port_setPort_self, State.setPort_setPort]
      rfl
    have ends : lost.jobEnds .spareLost = u := by
      rw [State.jobEnds_quiet (p := p) (by rw [lost_job]; exact spare) (by rw [lost_job]; exact window)
        (by rw [lost_job]; exact awaiting) (by rw [lost_job]; exact other), lost_port, lost_job]
    have u_job : u.job = idle.job := State.notify_job _ _
    have sequencer : lost.sequencerFailure p = ([.arbiter, .examine], u) := by
      have free' (c : CtxId) : (lost.ctx c).state = .free := by
        rw [State.ctx_congr (t := s) (by rw [lost_engine]) c]; exact free c
      have sweeps : lost.sweepCtxs = [] := State.sweepCtxs_eq_nil (fun c used => absurd (free' c) used)
      have fills : lost.fillCtxs = [] := by
        simp [State.fillCtxs, free']
      have unarmed : u.armIfDue = u := by
        rcases u.armIfDue_cases with e | ⟨m, -, on, -⟩
        · exact e
        · have : u.target = s.target := by simp [u, idle, lost]
          rw [this, off] at on
          cases on
      have timer : u.settleDue = false := State.settleDue_of_not_armed (by rw [u_job]; simp [idle])
      have mark' : (lost.port p).bound = true := by rw [lost_port]; exact mark
      simp only [State.sequencerFailure, mark', if_true, State.spareLoss, sweeps, fills, List.filterMap_nil, List.foldl_nil,
        List.contains_nil, Bool.or_self, List.filter_false, State.abandon_nil, State.heldBy_nil, ends, State.arm, unarmed,
        timer, Bool.false_eq_true, if_false, List.nil_append]
      rfl
    have u_engine : u.engine = s.engine := by simp [u, idle, lost]
    have u_port : u.port p = { down with bound := false } := by
      rw [State.notify_port]
      exact State.port_setPort_self _ p _
    have settled : u.Quiet :=
      { up := by simpa [u, idle, lost] using quiet.up
        link := by simpa [u, idle, lost] using quiet.link
        commit := by
          have := quiet.commit
          simp only [State.commitReady, State.drained] at this ⊢
          simpa [u, idle, lost] using this
        stall := fun c => by rw [State.ctx_congr (t := s) (by rw [u_engine]) c]; exact quiet.stall c
        timer := State.settleDue_of_not_armed (by rw [u_job]; simp [idle])
        owed := by rw [u_engine]; exact quiet.owed
        tx := by
          have told : lost.txRests := (quiet.tx.of_same (t := s.setPort p down) rfl rfl rfl).notify quiet.up _
          exact (told.of_same (t := idle) rfl rfl rfl).notify (by simpa [idle, lost] using quiet.up) _ }
    have followed : Brings 2 [.arbiter, .examine] u u := .afterFree (by rw [u_engine]; exact empty)
      (State.noLaunch_of_not_active (by rw [u_job]; simp [idle]))
    have emptied : Brings 2 [.emptyList p, .emptyDeferred p] u u :=
      .step (State.emptyList_of_none (by rw [u_port]; exact list))
        (.one (State.emptyDeferred_of_none (by rw [u_port]; exact deferred)))
    have effects : Brings 5 [.sequencerFailure p, .emptyList p, .emptyDeferred p] lost u :=
      .cons sequencer (followed.append emptied)
    show execDriveLinkDown p s = _
    rw [execDriveLinkDown, fails]
    exact cascade_quiet effects (by rw [lost_engine]; exact quiet.owed) (by decide) settled
  · refine serves.refuses (List.cons_ne_nil _ _) ?_
    have unbound' : (s.taking h).job.state.bound = false := unbound
    show (s.taking h).takeAbandon h.tag.toNat [] = _
    simp only [State.takeAbandon, unbound', ne_eq, not_true, if_false, Bool.false_eq_true]
  · intro idle
    let u := idle.notify (.jobState .idle .command 0)
    have other : s.job.state ≠ .idle := by intro e; rw [e] at bound; cases bound
    have abandoned : (s.taking h).abandonJob = ([.arbiter, .examine], u.taking h) := by
      have ends := State.jobEnds_quiet (s := s.taking h) spare window awaiting other .command
      simp only [State.abandonJob, State.sweepCtxs_eq_nil (s := s.taking h) sweeps, State.abandon_nil, State.heldBy_nil,
        ends]
      refine congrArg (Prod.mk _) ?_
      rw [← State.taking_notify]
      rfl
    have served : u.Serves h := by
      refine serves.of_same (State.settleDue_of_not_armed (by simp [u, idle])) ?_ ?_ ?_ ?_ ?_ ?_ ?_ ?_
      all_goals simp [u, idle]
    have answered : ((u.taking h).answer h.tag.toNat (.plain .good)).engine = s.engine := by
      rw [State.answer_engine]
      show u.engine = _
      simp [u, idle]
    have followed : Brings 2 [.arbiter, .examine] ((u.taking h).answer h.tag.toNat (.plain .good))
        ((u.taking h).answer h.tag.toNat (.plain .good)) :=
      .afterFree (by rw [answered]; exact empty) (State.noLaunch_of_not_active (by
        rw [State.answer_job]
        show u.job.state ≠ _
        simp [u, idle]))
    have bound' : (s.taking h).job.state.bound = true := bound
    have taken : (s.taking h).takeCommand h.tag.toNat [0x0B] =
        ([.arbiter, .examine] ++ [.nextCommand], (u.taking h).answer h.tag.toNat (.plain .good)) := by
      show (s.taking h).takeAbandon h.tag.toNat [] = _
      simp only [State.takeAbandon, bound', ne_eq, not_true, if_false, if_true, abandoned]
    apply receive_manage serves (List.cons_ne_nil _ _)
    rw [taken, List.append_assoc, followed _ _ (by decide)]
    exact run_answered (by decide) served (.plain .good)

end

section
/-! SUPPORT. Arming after a member failure (R35), and the settle timer's expiry (R36). -/
namespace Sys2Proof.Machine

variable {s : State} {h : Header}

/-! ## The lowest that fits -/

/-- A search through an ascending list finds the lowest that fits. -/
theorem find?_lowest {α : Type} [LinearOrder α] {f : α → Bool} {l : List α} {x : α} (sorted : l.Pairwise (· < ·))
    (mem : x ∈ l) (fits : f x = true) (lowest : ∀ y, y < x → f y = false) : l.find? f = some x := by
  induction l with
  | nil => cases mem
  | cons y l ih =>
    obtain ⟨below, rest⟩ := List.pairwise_cons.1 sorted
    rcases List.mem_cons.1 mem with e | later
    · rw [← e, List.find?_cons_of_pos fits]
    · rw [List.find?_cons_of_neg (by simp [lowest y (below x later)]), ih rest later]

theorem State.fitSpare_lowest {q : PortId} (fits : (s.port q).role = .spare ∧ (s.port q).health = .online)
    (lowest : ∀ r, r < q → ¬ ((s.port r).role = .spare ∧ (s.port r).health = .online)) : s.fitSpare = some q :=
  find?_lowest allPorts_ascending (mem_allPorts q) (by simp [fits.1, fits.2]) (fun r below => by simpa using lowest r below)

theorem State.fitSpare_none (none_ : ∀ q, ¬ ((s.port q).role = .spare ∧ (s.port q).health = .online)) :
    s.fitSpare = none :=
  List.find?_eq_none.2 (fun q _ => by simpa using none_ q)

/-! ## The expiry of the settle timer (R36) -/

/-- The state after an expiry that finds no spare (R36). -/
def State.unspared (s : State) : State :=
  { s with job := { s.job with
    state := .idle, cause := .auto, target := none, spare := none, armed := none, settle := none } }.notify
      (.jobState .idle .auto s.job.w)

/-- The state after an expiry that starts a rebuild of member m on port q (R36, R102). -/
def State.autoStarted (s : State) (m : Nat) (q : PortId) : State :=
  { s.setPort q { s.port q with bound := true } with
    job := { s.job with state := .active, cause := .auto, target := some m, spare := some q, armed := none
                        settle := none, w := 0, n := 0 }
    notices := { s.notices with milestones := s.notices.milestones.filter (fun x => 0 < x.target) } }.notify
      (.jobState .active .auto 0)

theorem State.settleExpiry_unspared {due m : Nat} (armed : s.job.state = .armed) (timer : s.job.settle = some due)
    (member : s.job.armed = some m) (none_ : s.fitSpare = none) : s.settleExpiry = ([], s.unspared) := by
  simp only [State.settleExpiry, armed, timer, member, none_]
  rw [State.jobIdle_of_ne (by simp [armed])]
  rfl

theorem State.settleExpiry_starts {due m : Nat} {q : PortId} (armed : s.job.state = .armed) (timer : s.job.settle = some due)
    (member : s.job.armed = some m) (fits : s.fitSpare = some q) (some_ : 0 < s.stripeCount) :
    s.settleExpiry = ([.examine], s.autoStarted m q) := by
  simp only [State.settleExpiry, armed, timer, member, fits, State.start_eq]
  rw [if_neg (by omega), State.jobTo_of_ne (by simp [State.begun, armed])]
  rfl

/-- A rebuild that has just been started launches nothing for want of credit (R105). -/
theorem State.autoStarted_noLaunch (some_ : 0 < s.stripeCount) (ahead : 0 ∉ s.job.ahead) (credit : s.pacing.credit < s.width)
    (m : Nat) (q : PortId) : (s.autoStarted m q).noLaunch := by
  intro _
  have stripes : (s.autoStarted m q).stripeCount = s.stripeCount := by simp [State.autoStarted, State.stripeCount]
  rw [stripes]
  exact ⟨by simpa [State.autoStarted, State.width] using credit, by simpa [State.autoStarted] using ahead,
    .inl (by simpa [State.autoStarted] using (Nat.ne_of_lt some_))⟩

theorem State.taking_unspared : (s.taking h).unspared = s.unspared.taking h := by
  rw [State.unspared, State.unspared, ← State.taking_notify]
  rfl

theorem State.taking_autoStarted (m : Nat) (q : PortId) : (s.taking h).autoStarted m q = (s.autoStarted m q).taking h := by
  rw [State.autoStarted, State.autoStarted, ← State.taking_notify]
  rfl

/-! ## Arming (R35) -/

/-- Where one member of a list alone gives a value, that value is all there is. -/
theorem filterMap_alone {α β : Type} {f : α → Option β} {l : List α} {x : α} {y : β} (nodup : l.Nodup) (mem : x ∈ l)
    (value : f x = some y) (others : ∀ z, z ≠ x → f z = none) : l.filterMap f = [y] := by
  induction l with
  | nil => cases mem
  | cons z l ih =>
    obtain ⟨fresh, rest⟩ := List.nodup_cons.1 nodup
    by_cases e : z = x
    · have later : l.filterMap f = [] := List.filterMap_eq_nil_iff.2 (fun w hw => others w (fun e' => fresh (e ▸ e' ▸ hw)))
      rw [List.filterMap_cons, e, value, later]
    · rw [List.filterMap_cons, others z e]
      exact ih rest ((List.mem_cons.1 mem).resolve_left (Ne.symm e))

/-- The first member to fail is the only failed one (R12). -/
theorem State.failedMembers_first {p : PortId} {m : Nat} {t : State} (none_ : s.failedMembers = [])
    (failed : (t.port p).health = .failed) (role : (t.port p).role = .member m)
    (others : ∀ q, q ≠ p → t.port q = s.port q) : t.failedMembers = [m] := by
  refine filterMap_alone (x := p) (allPorts_ascending.imp ne_of_lt) (mem_allPorts p) ?_ (fun q other => ?_)
  · rw [Port.failedMember, if_pos failed, Port.memberIndex_eq_some.2 role]
  · rw [others q other]
    exact List.filterMap_eq_nil_iff.1 none_ q (mem_allPorts q)

/-- The state once the job has been armed for a member (R35). -/
def State.armedFor (s : State) (m : Nat) : State :=
  { s with job := { s.job with
    state := .armed, cause := .auto, armed := some m, settle := some (s.now + s.target.policy.settleTime * 1000 * 1000) } }.notify
      (.jobState .armed .auto s.job.w)

theorem State.armIfDue_eq {m : Nat} (failed : s.failedMembers = [m]) (on : s.target.policy.autoStart = true)
    (idle : s.job.state = .idle ∨ s.job.state = .done) : s.armIfDue = s.armedFor m := by
  have other : s.job.state ≠ .armed := by rcases idle with e | e <;> rw [e] <;> simp
  simp only [State.armIfDue, failed, on, idle, and_self, if_true]
  rw [State.jobTo_of_ne (by simpa using other), State.armedFor, Nat.mul_assoc]

theorem State.taking_armedFor (m : Nat) : (s.taking h).armedFor m = (s.armedFor m).taking h := by
  rw [State.armedFor, State.armedFor, ← State.taking_notify]
  rfl

/-- A settle timer just loaded is due where the SettleTime is 0 (R35). -/
theorem State.settleDue_armedFor (m : Nat) : (s.armedFor m).settleDue = true ↔ s.target.policy.settleTime = 0 := by
  simp [State.settleDue, State.armedFor]

/-- The failure of the first member to fail arms the job, and brings the expiry where the SettleTime is 0 (R35). -/
theorem State.sequencerFailure_arms {p : PortId} {m : Nat} (mark : (s.port p).bound = false)
    (role : (s.port p).role = .member m) (failed : s.failedMembers = [m]) (on : s.target.policy.autoStart = true)
    (idle : s.job.state = .idle ∨ s.job.state = .done) :
    s.sequencerFailure p = (if s.target.policy.settleTime = 0 then [.settleExpiry] else [], s.armedFor m) := by
  have arms : s.arm = (if s.target.policy.settleTime = 0 then [.settleExpiry] else [], s.armedFor m) := by
    simp only [State.arm, State.armIfDue_eq failed on idle, State.settleDue_armedFor]
  have index : (s.port p).memberIndex = some m := Port.memberIndex_eq_some.2 role
  rcases idle with e | e <;>
    simp only [State.sequencerFailure, mark, Bool.false_eq_true, if_false, index, e, arms]

end Sys2Proof.Machine

open Sys2Proof Sys2Proof.Machine

/-- Settles O39: the arming and its expiry as the sequencer meets a failure, and the expiry at its own moment (R35, R36). -/
theorem armingAndExpiry : Obligations.ArmingAndExpiry := by
  refine ⟨fun s h b p serves member port online mark all none_ unfailed on idle => ?_,
    fun s due m rests armed timer member => ?_, fun s none_ => ?_⟩
  · intro fit failed armed result
    have role := State.role_of_portOf port
    have failed_port (q : PortId) : failed.port q = if p = q then { s.port p with health := .failed } else s.port q := by
      rw [State.notify_port, State.port_setPort]
    have failed_job : failed.job = s.job := State.notify_job _ _
    have failed_target : failed.target = s.target := by simp [failed]
    have members : failed.failedMembers = [b.toNat] :=
      State.failedMembers_first (s := s) (p := p) unfailed (by rw [failed_port, if_pos rfl])
        (by rw [failed_port, if_pos rfl]; exact role) (fun q other => by rw [failed_port, if_neg (Ne.symm other)])
    have armed_eq : failed.armedFor b.toNat = armed := by
      simp only [State.armedFor, failed_target, failed_job, show failed.now = s.now by simp [failed], armed]
    have sequencer : (failed.taking h).sequencerFailure p =
        (if s.target.policy.settleTime = 0 then [.settleExpiry] else [], armed.taking h) := by
      rw [State.sequencerFailure_arms (s := failed.taking h) (m := b.toNat)
        (show (failed.port p).bound = false by rw [failed_port, if_pos rfl]; exact mark)
        (show (failed.port p).role = _ by rw [failed_port, if_pos rfl]; exact role) members
        (show failed.target.policy.autoStart = true by rw [failed_target]; exact on)
        (show failed.job.state = .idle ∨ failed.job.state = .done by rw [failed_job]; exact idle),
        State.taking_armedFor, armed_eq, show (failed.taking h).target.policy = s.target.policy by rw [← failed_target]; rfl]
    have armed_port (q : PortId) : armed.port q = failed.port q := State.notify_port _ _
    have sees (q : PortId) : (((armed.taking h).port q).role = .spare ∧ ((armed.taking h).port q).health = .online) ↔ fit q := by
      show (armed.port q).role = .spare ∧ (armed.port q).health = .online ↔ _
      rw [armed_port, failed_port]
      split
      · next e => subst e; simp [fit, role]
      · rfl
    have armed_job : armed.job = _ := State.notify_job _ _
    refine ⟨fun later => ?_, fun now none_fit => ?_, fun q now fits lowest some_ ahead credit => ?_⟩
    · have timer : armed.settleDue = false := by
        rw [← armed_eq, Bool.eq_false_iff, ne_eq, State.settleDue_armedFor, failed_target]
        omega
      rw [if_neg (by omega)] at sequencer
      refine serves.fails_member member port online (.one sequencer) (by decide)
        (by rw [armed_port, failed_port, if_pos rfl]; exact all) (by rw [armed_port, failed_port, if_pos rfl]; exact none_)
        (serves.of_same timer ?_ ?_ ?_ ?_ ?_ ?_ ?_ ?_)
      all_goals simp [armed, failed]
    · rw [if_pos now] at sequencer
      have expires : (armed.taking h).settleExpiry = ([], armed.unspared.taking h) := by
        rw [State.settleExpiry_unspared (s := armed.taking h) (show armed.job.state = _ by rw [armed_job])
          (show armed.job.settle = _ by rw [armed_job]) (show armed.job.armed = _ by rw [armed_job])
          (State.fitSpare_none (fun q => mt (sees q).1 (none_fit q))), State.taking_unspared]
      have ended : armed.unspared.job.state = .idle := by simp [State.unspared]
      have port_eq : armed.unspared.port p = { s.port p with health := .failed } := by
        rw [State.unspared, State.notify_port]
        show armed.port p = _
        rw [armed_port, failed_port, if_pos rfl]
      rw [show s.job.w = armed.job.w by rw [armed_job, failed_job]]
      refine serves.fails_member (u := armed.unspared) member port online (.cons sequencer (.one expires)) (by decide)
        (by rw [port_eq]; exact all) (by rw [port_eq]; exact none_)
        (serves.of_same (State.settleDue_of_not_armed (by rw [ended]; simp)) ?_ ?_ ?_ ?_ ?_ ?_ ?_ ?_)
      all_goals simp [State.unspared, armed, failed]
    · rw [if_pos now] at sequencer
      have stripes : armed.stripeCount = s.stripeCount := by simp [State.stripeCount, armed, failed]
      have expires : (armed.taking h).settleExpiry = ([.examine], (armed.autoStarted b.toNat q).taking h) := by
        rw [State.settleExpiry_starts (s := armed.taking h) (m := b.toNat) (show armed.job.state = _ by rw [armed_job])
          (show armed.job.settle = _ by rw [armed_job]) (show armed.job.armed = _ by rw [armed_job])
          (State.fitSpare_lowest ((sees q).2 fits) (fun r below => mt (sees r).1 (lowest r below)))
          (show 0 < armed.stripeCount by rw [stripes]; exact some_), State.taking_autoStarted]
      have quiet : (armed.autoStarted b.toNat q).noLaunch :=
        State.autoStarted_noLaunch (by rw [stripes]; exact some_) (by rw [armed_job, failed_job]; exact ahead)
          (by simpa [State.width, armed, failed] using credit) _ _
      have started : (armed.autoStarted b.toNat q).job.state = .active := by simp [State.autoStarted]
      have apart : q ≠ p := by
        rintro rfl
        exact absurd (role.symm.trans fits.1) (by simp)
      have port_eq : (armed.autoStarted b.toNat q).port p = { s.port p with health := .failed } := by
        rw [State.autoStarted, State.notify_port]
        exact (State.port_setPort_ne _ apart _).trans (by rw [armed_port, failed_port, if_pos rfl])
      refine serves.fails_member (u := armed.autoStarted b.toNat q) member port online
        (.cons sequencer (.cons expires (State.noLaunch.brings (s := (armed.autoStarted b.toNat q).taking h) quiet)))
        (by decide) (by rw [port_eq]; exact all) (by rw [port_eq]; exact none_)
        (serves.of_same (State.settleDue_of_not_armed (by rw [started]; simp)) ?_ ?_ ?_ ?_ ?_ ?_ ?_ ?_)
      all_goals simp [State.autoStarted, armed, failed]
  · intro fit u
    have exec_eq : exec .settleTimerExpiry s = cascade [.settleExpiry] u := by
      show execSettleTimerExpiry s = _
      rw [execSettleTimerExpiry, timer]
    refine ⟨fun none_fit => ?_, fun q fits lowest some_ ahead credit => ?_⟩
    · have expires : handle .settleExpiry u = ([], u.unspared) := State.settleExpiry_unspared (s := u) armed timer member (State.fitSpare_none none_fit)
      have ended : u.unspared.Rests := by
        refine rests.of_same (State.settleDue_of_not_armed (by simp [State.unspared])) ?_ ?_ ?_ ?_ ?_
        · have := rests.commit
          simp only [State.commitReady, State.drained] at this ⊢
          simpa [State.unspared, u, State.advanceTo] using this
        all_goals simp [State.unspared, u, State.advanceTo]
      exact exec_eq.trans ((Brings.one expires).cascade rests.owed (by decide) ended)
    · have expires : handle .settleExpiry u = ([.examine], u.autoStarted m q) :=
        State.settleExpiry_starts (s := u) armed timer member (State.fitSpare_lowest fits lowest) some_
      have quiet : (u.autoStarted m q).noLaunch := State.autoStarted_noLaunch (s := u) some_ ahead credit m q
      have ended : (u.autoStarted m q).Rests := by
        refine rests.of_same (State.settleDue_of_not_armed (by simp [State.autoStarted])) ?_ ?_ ?_ ?_ ?_
        · have := rests.commit
          simp only [State.commitReady, State.drained] at this ⊢
          simpa [State.autoStarted, u, State.advanceTo] using this
        all_goals simp [State.autoStarted, u, State.advanceTo]
      exact exec_eq.trans ((Brings.cons expires quiet.brings).cascade (k := 2) rests.owed (by decide) ended)
  · show execSettleTimerExpiry s = _
    rw [execSettleTimerExpiry, none_]

end

section
/-! SUPPORT. A member request that reaches the router (R46, R47): answered at once, forwarded, held, or waiting. -/
namespace Sys2Proof.Machine

variable {s : State} {op : MemberOp} {h : Header} {data : List Sector} {q : PortId} {place : Place}

/-! ## The request in the table -/

/-- A request that has been mapped, beside the rest of the table. -/
def State.placing (s : State) (op : MemberOp) (h : Header) (data : List Sector) (place : Place) : State :=
  s.addEntry (placedEntry op h data place)

theorem State.placeOf_of_geometry {addr count : Nat} (fits : s.geometry addr count = .ok place) : s.placeOf addr = place := by
  unfold State.geometry at fits
  split at fits
  · cases fits
  · split at fits
    · cases fits
    · split at fits
      · cases fits
      · exact Except.ok.inj fits

/-- A request that passes every arrival check reaches the router (R7, R9, R45, R46). -/
theorem State.Takes.takeFrame_mapped (hs : s.Takes h) (maps : s.Maps h q place) :
    s.takeFrame (.member op h (op.frameLength h) (op.kept data)) =
      ([.route h.tag.toNat false], s.placing op h data place) := by
  rw [hs.newMember_placed maps.slot maps.member maps.noCommit, maps.geometry, State.placeOf_of_geometry maps.geometry]
  rfl

/-- The routing decision of a mapped request (R46, R47). -/
theorem State.Takes.route_eq (hs : s.Takes h) (maps : s.Maps h q place) :
    (s.placing op h data place).route h.tag.toNat false =
      if s.lockHolds q op.reqOp place.stripe then ([], (s.placing op h data place).hold h.tag.toNat place.stripe)
      else match s.routeOf h.slot.toNat q op.reqOp place.stripe with
        | .forward p => (s.placing op h data place).forwardTo (placedEntry op h data place) p
        | .reconstruct kind mask target tm =>
          (s.placing op h data place).reconstruct (placedEntry op h data place) place kind mask target tm false
        | .absorbed => ([], (s.placing op h data place).answer h.tag.toNat (.plain .good))
        | .lost => ([], (s.placing op h data place).answer h.tag.toNat (.plain .dataLost)) := by
  have found : (s.placing op h data place).entry? h.tag.toNat = some (placedEntry op h data place) :=
    State.entry?_addEntry (e := placedEntry op h data place) hs.free
  have unowed : (s.placing op h data place).engine.owed.isSome = false := by
    rw [show (s.placing op h data place).engine.owed = s.engine.owed from rfl, hs.owed]; rfl
  have port : (s.placing op h data place).portOf (placedEntry op h data place).slot = some q := maps.port
  simp only [State.route, unowed, Bool.false_eq_true, if_false, found]
  show State.decideRoute _ _ _ _ = _
  rw [State.decideRoute, port]
  rfl

/-- What routing a mapped request brings, and a bridge at rest after it. -/
theorem State.Takes.exec_routed (hs : s.Takes h) (maps : s.Maps h q place) {more : List Work} {t u : State} {k : Nat}
    (routed : (s.placing op h data place).route h.tag.toNat false = (more, t)) (effects : Brings k more t u)
    (hk : k + 2 < Config.cascadeBound) (rests : u.Rests) :
    exec (memberRequest op h data) s = .next u.transmit := by
  rw [memberRequest, exec_memberFrame]
  have route : handle (.route h.tag.toNat false) (s.placing op h data place) = (more, t) := routed
  have brings : Brings (k + 1) (s.takeFrame (.member op h (op.frameLength h) (op.kept data))).1
      (s.takeFrame (.member op h (op.frameLength h) (op.kept data))).2 u := by
    rw [hs.takeFrame_mapped maps]
    exact .cons route (by rw [List.append_nil]; exact effects)
  exact brings.receive hs.toRests hs.room (by omega) rests

/-- A request that its routing answers leaves the answer and nothing else (R50, R57, R68). -/
theorem State.Takes.exec_answered (hs : s.Takes h) (maps : s.Maps h q place) {st : Status}
    (routed : (s.placing op h data place).route h.tag.toNat false =
      ([], (s.placing op h data place).answer h.tag.toNat (.plain st))) :
    exec (memberRequest op h data) s = .next (s.withAnswered (placedEntry op h data place) (.plain st)) := by
  have answered : (s.placing op h data place).answer h.tag.toNat (.plain st) =
      s.withAnswered (placedEntry op h data place) (.plain st) :=
    State.answer_addEntry (e := placedEntry op h data place) hs.free hs.up rfl _
  rw [answered] at routed
  rw [hs.exec_routed maps routed (.nil _) (by decide) (hs.toRests.withAnswered _ _),
    State.transmit_of_busy (s := s.withAnswered _ _) rfl]

/-! ## Forwarding (R51, R57) -/

/-- A port after the issue rule (R20). -/
def Port.issuing (deadline : Nat) (x : Port) : Port :=
  if x.health = .online then
    { x with
      list := (issueEntries deadline (Config.outstandingBound - x.outstanding) x.nextId x.list).1
      nextId := (issueEntries deadline (Config.outstandingBound - x.outstanding) x.nextId x.list).2 }
  else x

theorem State.issue_eq (s : State) (p : PortId) :
    s.issue p = s.setPort p ((s.port p).issuing (s.now + s.target.policy.driveTimeoutMicros)) := by
  unfold State.issue Port.issuing
  dsimp only
  split
  · rfl
  · rw [State.setPort_self]

/-- A port with an operation admitted (R18). -/
def Port.admitting (deadline : Nat) (op : DriveOp) (x : Port) : Port :=
  Port.issuing deadline { x with list := x.list ++ [{ op, issue := none }] }

theorem State.enlist_eq (s : State) (p : PortId) (op : DriveOp) :
    s.enlist p op = s.setPort p ((s.port p).admitting (s.now + s.target.policy.driveTimeoutMicros) op) := by
  rw [State.enlist, State.issue_eq, State.port_setPort_self, State.setPort_setPort]
  rfl

/-- An admission does not read the in-flight table (R18, R20). -/
theorem State.enlist_addEntry (s : State) (e : InFlight) (p : PortId) (d : DriveOp) :
    (s.addEntry e).enlist p d = (s.enlist p d).addEntry e := by
  rw [State.enlist_eq, State.enlist_eq]
  rfl

theorem InFlight.driveOp_placedEntry : (placedEntry op h data place).driveOp = forwardedOp op h data := by
  cases op <;> rfl

/-- The deadlines, the issue and the count of an admission hinder nothing that could be due. -/
theorem State.Rests.enlist (hs : s.Rests) (p : PortId) (d : DriveOp) : (s.enlist p d).Rests := by
  rw [State.enlist_eq]
  exact hs.of_same hs.timer hs.commit rfl rfl rfl rfl

/-- A bridge at rest is so still with one more request that no commit waits for. -/
theorem State.Rests.addEntry (hs : s.Rests) (noCommit : s.committing = false) (e : InFlight) : (s.addEntry e).Rests :=
  hs.of_same hs.timer (State.commitReady_of_not_committing noCommit) rfl rfl rfl rfl

/-- A change of the request just placed (R41). -/
theorem State.Takes.setEntry_placing (hs : s.Takes h) (f : InFlight → InFlight) :
    (s.placing op h data place).setEntry h.tag.toNat f = s.addEntry (f (placedEntry op h data place)) :=
  State.setEntry_addEntry (e := placedEntry op h data place) hs.free f

end Sys2Proof.Machine

open Sys2Proof Sys2Proof.Machine

/-- Settles O14: the two routes that answer at once (R50). -/
theorem requestAnsweredAtOnce : Obligations.RequestAnsweredAtOnce := by
  intro s op h data q place takes maps unlocked answered
  have route := takes.route_eq (op := op) (data := data) maps
  rw [unlocked] at route
  refine ⟨fun absorbed => takes.exec_answered maps ?_, fun lost => takes.exec_answered maps ?_⟩
  · rw [route, absorbed]; rfl
  · rw [route, lost]; rfl

/-- Settles O13, by what the port answers to the offer (R18, R51, R53, R57). -/
theorem requestForwarded : Obligations.RequestForwarded := by
  intro s op h data q p place takes tx maps unlocked forward e d result
  let u := s.placing op h data place
  have routed : u.route h.tag.toNat false = u.forwardTo e p := by
    rw [takes.route_eq maps, unlocked, forward]; rfl
  refine ⟨fun online empty room => ?_, fun online full => ?_, fun absent => ?_⟩
  · have offered : u.offerForeground p d = (.admitted, (u.enlist p d).countForeground) := by
      have fits : (u.port p).hasRoom = true := by
        simp [Port.hasRoom, show (u.port p).deferred = [] from empty, show (u.port p).list.length < _ from room]
      rw [State.offerForeground, if_neg (by simpa using show (u.port p).health = .online from online), if_pos fits]
    let v := ((s.enlist p d).countForeground).addEntry { e with state := .issued, forward := some (p, d.kind), data := [] }
    have admitted : u.forwardTo e p = ([], v) := by
      simp only [State.forwardTo, show e.driveOp = d from InFlight.driveOp_placedEntry, offered]
      refine congrArg (Prod.mk _) ?_
      have free : (s.enlist p d).countForeground.entry? e.tag = none := by
        rw [State.entry?, State.countForeground_table, State.enlist_table]
        exact takes.free
      show ((s.addEntry e).enlist p d).countForeground.setEntry e.tag _ = _
      rw [State.enlist_addEntry]
      exact State.setEntry_addEntry (s := (s.enlist p d).countForeground) free _
    have rests : v.Rests := by
      have admitted := takes.toRests.enlist p d
      exact admitted.of_same admitted.timer
        (State.commitReady_of_not_committing (by simpa [v, State.committing, State.addEntry] using maps.noCommit))
        rfl rfl rfl rfl
    have quiet : v.txRests := tx.of_same (by simp [v, State.addEntry]) (by simp [v, State.addEntry])
      (by simp [v, State.addEntry])
    refine (takes.exec_routed maps (routed.trans admitted) (.nil _) (by decide) rests).trans ?_
    rw [State.transmit_of_rests _ quiet]
    simp only [v, State.addEntry, State.countForeground_table, State.enlist_table]
  · have busy : u.offerForeground p d = (.busy, u) := by
      have none_ : (s.port p).hasRoom = false := by simpa [Port.hasRoom] using full
      rw [State.offerForeground, if_neg (by simpa using show (u.port p).health = .online from online),
        show (u.port p).hasRoom = false from none_]
      rfl
    refine takes.exec_answered maps (routed.trans ?_)
    simp only [State.forwardTo, show e.driveOp = d from InFlight.driveOp_placedEntry, busy]
    rfl
  · have missing : u.offerForeground p d = (.missing, u) := by
      rw [State.offerForeground, if_pos (by simp [show (u.port p).health = .absent from absent])]
    let e' : InFlight := { e with state := .issued, forward := some (p, d.kind) }
    have offered : u.forwardTo e p = ([.deliver p d .missing], s.addEntry e') := by
      simp only [State.forwardTo, show e.driveOp = d from InFlight.driveOp_placedEntry, missing]
      exact congrArg (Prod.mk _) (takes.setEntry_placing _)
    have orig : d.orig = .tag h.tag.toNat := by cases op <;> rfl
    have delivered : handle (.deliver p d .missing) (s.addEntry e') = ([], s.withAnswered e (.plain .timeout)) := by
      have found : (s.addEntry e').entry? h.tag.toNat = some e' := State.entry?_addEntry (e := e') takes.free
      have answered : (s.addEntry e').answer h.tag.toNat (.plain .timeout) = s.withAnswered e' (.plain .timeout) :=
        State.answer_addEntry (e := e') takes.free takes.up rfl _
      have alive : ((s.addEntry e').port p).health ≠ .failed := by
        rw [show (s.addEntry e').port p = s.port p from rfl, absent]; simp
      simp only [handle, State.deliver, orig, State.routerOutcome, found, if_neg alive, answered]
      rfl
    refine (takes.exec_routed maps (routed.trans offered) (.one delivered) (by decide)
      (takes.toRests.withAnswered _ _)).trans ?_
    rw [State.transmit_of_busy (s := s.withAnswered _ _) rfl]

/-- Settles O16: no context is available, and the request joins the wait list (R77, R78). -/
theorem readWaitsForContext : Obligations.ReadWaitsForContext := by
  intro s op h data q place kind mask target tm takes tx maps unlocked reconstruct unavailable
  let u := s.placing op h data place
  let v : State := { s.addEntry { placedEntry op h data place with state := .waiting } with
    engine := { s.engine with waitList := s.engine.waitList ++ [h.tag.toNat] } }
  have none_ : (if false = true ∨ u.engine.waitList = [] then u.foregroundCtx else none) = none := by
    by_cases waits : s.engine.waitList = []
    · have unused : u.foregroundCtx = none := by
        rcases unavailable with some_ | many | used
        · exact absurd waits some_
        · exact if_neg (not_lt.2 many)
        · have lowest : u.lowestFree = none := List.find?_eq_none.2 (fun c _ => by
            simpa using show (u.ctx c).state ≠ .free from used c)
          unfold State.foregroundCtx
          split
          · exact lowest
          · rfl
      rw [unused, ite_self]
    · exact if_neg (by simpa using show u.engine.waitList ≠ [] from waits)
  have routed : u.route h.tag.toNat false = ([], v) := by
    have joined : u.reconstruct (placedEntry op h data place) place kind mask target tm false = ([], v) := by
      simp only [State.reconstruct, none_]
      refine congrArg (Prod.mk _) ?_
      exact congrArg (fun t : State => { t with engine := { s.engine with waitList := s.engine.waitList ++ [h.tag.toNat] } })
        (takes.setEntry_placing (op := op) (data := data) (place := place) (fun x => { x with state := .waiting }))
    rw [takes.route_eq maps, unlocked, reconstruct]
    exact joined
  have rests : v.Rests := takes.toRests.of_same takes.timer (State.commitReady_of_not_committing maps.noCommit)
    rfl rfl rfl rfl
  refine (takes.exec_routed maps routed (.nil _) (by decide) rests).trans ?_
  rw [State.transmit_of_rests v (tx.of_same rfl rfl rfl)]
  rfl

end

section
/-! SUPPORT. Held requests and the hand-back of a context that finds its stripe locked (R64, R67, R68). -/
namespace Sys2Proof.Machine

variable {s : State}

/-! ## The lowest context that blocks a stripe (R68) -/

/-- What an ascending list's search finds has none that fits below it. -/
theorem lowest_of_find? {α : Type} [LinearOrder α] {f : α → Bool} {l : List α} {x y : α} (sorted : l.Pairwise (· < ·))
    (found : l.find? f = some x) (mem : y ∈ l) (below : y < x) : f y = false := by
  induction l with
  | nil => cases mem
  | cons z l ih =>
    obtain ⟨above, rest⟩ := List.pairwise_cons.1 sorted
    cases fits : f z with
    | true =>
      rw [List.find?_cons_of_pos fits] at found
      cases found
      rcases List.mem_cons.1 mem with e | later
      · exact absurd below (by rw [e]; exact lt_irrefl _)
      · exact absurd (above y later) (lt_asymm below)
    | false =>
      rw [List.find?_cons_of_neg (by simp [fits])] at found
      rcases List.mem_cons.1 mem with e | later
      · rw [e]; exact fits
      · exact ih rest found later

theorem allCtxs_ascending : allCtxs.Pairwise (· < ·) := by decide

/-- A context whose lock overlaps a stripe (R62). -/
def State.Blocks (s : State) (stripe : Nat) (c : CtxId) : Prop :=
  ∃ l ∈ s.slt.locks, l.ctx = c ∧ l.first ≤ s.lastBlock stripe ∧ s.firstBlock stripe ≤ l.last

theorem State.blocks_iff {stripe : Nat} {c : CtxId} : s.slt.locks.any (fun l => l.ctx == c &&
    l.overlaps (s.firstBlock stripe) (s.lastBlock stripe)) = true ↔ s.Blocks stripe c := by
  simp only [List.any_eq_true, Bool.and_eq_true, beq_iff_eq, Lock.overlaps, decide_eq_true_eq]
  exact Iff.rfl

theorem State.locked_iff {stripe : Nat} : s.locked stripe = true ↔ ∃ c, s.Blocks stripe c := by
  simp only [State.locked, List.any_eq_true, Lock.overlaps, Bool.and_eq_true, decide_eq_true_eq]
  exact ⟨fun ⟨l, mem, range⟩ => ⟨l.ctx, l, mem, rfl, range⟩, fun ⟨_, l, mem, _, range⟩ => ⟨l, mem, range⟩⟩

/-- At a locked stripe a request names the lowest-numbered context that blocks it (R68). -/
theorem State.blockingLock_of_locked {stripe : Nat} (locked : ∃ c, s.Blocks stripe c) :
    ∃ c, s.blockingLock stripe = some c ∧ s.Blocks stripe c ∧ ∀ k, k < c → ¬ s.Blocks stripe k := by
  obtain ⟨c, blocks⟩ := locked
  cases found : s.blockingLock stripe with
  | none => exact absurd (State.blocks_iff.2 blocks) (by simpa using List.find?_eq_none.1 found c (mem_allCtxs c))
  | some d =>
    refine ⟨d, rfl, State.blocks_iff.1 (List.find?_some (p := fun c => s.slt.locks.any (fun l => l.ctx == c &&
      l.overlaps (s.firstBlock stripe) (s.lastBlock stripe))) found), fun k below => ?_⟩
    have free := lowest_of_find? allCtxs_ascending found (mem_allCtxs k) below
    exact fun blocks => absurd (State.blocks_iff.2 blocks) (by simp [free])

/-- Which requests a locked stripe holds (R67). -/
theorem State.lockHolds_iff {p : PortId} {op : MemberOp} {stripe : Nat} : s.lockHolds p op.reqOp stripe = true ↔
    (∃ c, s.Blocks stripe c) ∧ (op = .write ∨ op = .read ∧ (s.port p).health ≠ .online) := by
  unfold State.lockHolds
  rw [Bool.and_eq_true, State.locked_iff]
  cases op <;> simp [MemberOp.reqOp]

/-- A place in the held queue behind the lowest-numbered blocking context (R68). -/
theorem State.hold_eq {tag stripe : Nat} {c : CtxId} (room : s.slt.held.length < Config.heldBound)
    (blocking : s.blockingLock stripe = some c) : s.hold tag stripe =
      ({ s with slt := { s.slt with held := s.slt.held ++ [({ tag, lock := c } : Held)] } }).setEntry tag
        (fun e => { e with state := .held, forward := none, ctx := none }) := by
  simp only [State.hold, if_pos room, blocking]

theorem State.hold_full {tag stripe : Nat} (full : Config.heldBound ≤ s.slt.held.length) :
    s.hold tag stripe = s.answer tag (.plain .busy) := if_neg (not_lt.2 full)

/-- Two changes of one entry in turn, as one. -/
theorem State.setEntry_setEntry {f g k : InFlight → InFlight} (htag : ∀ e, (g e).tag = e.tag) (comp : ∀ e, f (g e) = k e)
    (s : State) (tag : Nat) : (s.setEntry tag g).setEntry tag f = s.setEntry tag k := by
  simp only [State.setEntry, List.map_map]
  congr 2
  funext e
  by_cases at_ : e.tag = tag <;> simp [at_, htag, comp]

theorem InFlight.withoutCtx_tag (e : InFlight) : e.withoutCtx.tag = e.tag := by
  unfold InFlight.withoutCtx; split <;> rfl

/-! ## A lock request still owed (R63) -/

/-- A link that is up already comes up with no effect but those that are owed (R60, R63). -/
theorem exec_linkUp_owing {c : CtxId} {t : State} (up : s.channel.up = true) (link : s.channel.linkFrames = [])
    (commit : s.commitReady = none) (stall : ∀ c, (s.ctx c).stalled = false) (timer : s.settleDue = false) (tx : s.txRests)
    (owed : s.engine.owed = some c) (effects : run (Config.cascadeBound - 1) [.lockDue, .settle] s = some t) :
    exec .upstreamLinkUp s = .next t := by
  have same : ({ s with channel := { s.channel with up := true } } : State) = s := by rw [← up]
  have settle : handle .settle s = ([], s) := by
    rw [show handle .settle s = s.settle from rfl, State.settle_eq link commit stall timer, State.transmit_of_rests _ tx]
  show execUpstreamLinkUp s = _
  rw [execUpstreamLinkUp, same]
  apply cascade_eq
  rw [State.owedWork, owed, Option.isSome_some, if_pos rfl, List.nil_append]
  show run _ [.settle, .lockDue, .settle] s = _
  rw [run_step (by decide) settle]
  exact effects

/-- The state in which a lock request owed is made (R63). -/
def State.asking (s : State) : State := { s with engine := { s.engine with owed := none, late := s.engine.late.tail } }

/-- A lock request whose turn has come is made (R63). -/
theorem State.lockDue_asks {c : CtxId} (owed : s.engine.owed = some c) (now : s.engine.late.head? ≠ some true)
    (locking : (s.ctx c).state = .locking) (kind : (s.ctx c).kind ≠ .sweep) : s.lockDue = s.asking.lockRequest c := by
  have turn : s.engine.putsOff = false := by simpa [Engine.putsOff] using now
  have asks : (s.ctx c).state = .locking ∧ (s.ctx c).kind ≠ .sweep := ⟨locking, kind⟩
  simp only [State.lockDue, owed, Option.isSome_some, if_true, turn, Bool.false_eq_true, if_false, State.askLock]
  exact if_pos asks

/-- A context that finds its stripe locked goes back to FREE (R64). -/
theorem State.lockRequest_locked {c : CtxId} {tag : Nat} (locked : s.locked (s.ctx c).stripe = true)
    (origin : (s.ctx c).origin = .tag tag) : s.lockRequest c = ([.arbiter, .rejoin tag, .examine],
      (s.setCtx c (.blank (s.ctx c).serial)).setEntry tag InFlight.withoutCtx) := by
  have request : (s.ctx c).request = some tag := by rw [Context.request, origin]
  rw [State.lockRequest, if_pos locked, State.handBack]
  simp only [request]

end Sys2Proof.Machine

open Sys2Proof Sys2Proof.Machine

/-- Settles O15: the lock check and the held queue, as an arriving request and a context handed back meet them (R64, R67,
R68). -/
theorem requestHeld : Obligations.RequestHeld := by
  refine ⟨fun s op h data q place takes tx maps => ?_, fun s c r place => ?_⟩
  · intro blocks result
    refine ⟨State.lockHolds_iff, fun holds => ⟨fun room => ?_, fun full => ?_⟩⟩
    · obtain ⟨c, blocking, isBlocking, lowest⟩ := State.blockingLock_of_locked (State.lockHolds_iff.1 holds).1
      let held : State := { s.addEntry { placedEntry op h data place with state := .held } with
        slt := { s.slt with held := s.slt.held ++ [{ tag := h.tag.toNat, lock := c }] } }
      have routed : (s.placing op h data place).route h.tag.toNat false = ([], held) := by
        rw [takes.route_eq maps, if_pos holds, State.hold_eq (s := s.placing op h data place) room blocking]
        refine congrArg (Prod.mk _) ?_
        exact congrArg (fun t : State => { t with slt := { s.slt with
          held := s.slt.held ++ [({ tag := h.tag.toNat, lock := c } : Held)] } })
          (takes.setEntry_placing (op := op) (data := data) (place := place)
            (fun e => { e with state := .held, forward := none, ctx := none }))
      have rests : held.Rests := takes.toRests.of_same takes.timer (State.commitReady_of_not_committing maps.noCommit)
        rfl rfl rfl rfl
      refine ⟨c, isBlocking, lowest, (takes.exec_routed maps routed (.nil _) (by decide) rests).trans ?_⟩
      rw [State.transmit_of_rests held (tx.of_same rfl rfl rfl)]
      rfl
    · refine takes.exec_answered maps ?_
      rw [takes.route_eq maps, if_pos holds, State.hold_full (s := s.placing op h data place) full]
  · intro s0 rests tx owed turn locking kind stripe origin found issued placed forward noCommit empty other blocks blocked freed
    have locked : s0.locked (s0.ctx c).stripe = true := by
      rw [show (s0.ctx c).stripe = place.stripe from stripe]
      exact State.locked_iff.2 blocked
    let back := freed.setEntry r.tag InFlight.withoutCtx
    have request : s0.lockRequest c = ([.arbiter, .rejoin r.tag, .examine], back) :=
      State.lockRequest_locked (s := s0) locked origin
    have entry : back.entry? r.tag = some { r with ctx := none } := by
      rw [State.entry?_setEntry InFlight.withoutCtx_tag, show freed.entry? r.tag = some r from found, Option.map_some, if_pos rfl,
        InFlight.withoutCtx, if_pos issued]
    have rejoins : back.rejoin r.tag = back.hold r.tag place.stripe := by
      simp only [State.rejoin, entry, issued, placed, forward]
    -- the effects of the lock request, from its hand-back on
    have ends {t : State} (held : back.hold r.tag place.stripe = t) (idle : t.job.state ≠ .active) (quiet : t.Rests)
        (txRests : t.txRests) : exec .upstreamLinkUp s = .next t := by
      refine exec_linkUp_owing rests.up rests.link rests.commit rests.stall rests.timer tx owed ?_
      have asked : handle .lockDue s = ([.arbiter, .rejoin r.tag, .examine], back) :=
        (State.lockDue_asks owed turn locking kind).trans request
      have offered : handle .arbiter back = ([], back) := State.arbitrate_of_empty (s := back) empty
      have joined : handle (.rejoin r.tag) back = ([], t) := congrArg (Prod.mk _) (rejoins.trans held)
      have effects : Brings 3 [.arbiter, .rejoin r.tag, .examine] back t :=
        .step offered (.step joined (State.noLaunch_of_not_active idle).brings)
      rw [run_step (by decide) asked, effects _ _ (by decide), run_end (by decide) quiet, State.transmit_of_rests _ txRests]
    obtain ⟨k, blocking, isBlocking, lowest⟩ := State.blockingLock_of_locked (s := s) blocked
    have dropped (e : InFlight) : ({ e.withoutCtx with state := .held, forward := none, ctx := none } : InFlight) =
        { e with state := .held, forward := none, ctx := none } := by unfold InFlight.withoutCtx; split <;> rfl
    have answered (e : InFlight) (x : Response) :
        ({ e.withoutCtx with state := .answered, forward := none, ctx := none, data := [], response := some x } : InFlight) =
          { e with state := .answered, forward := none, ctx := none, data := [], response := some x } := by
      unfold InFlight.withoutCtx; split <;> rfl
    have free (x : CtxId) : (freed.ctx x).stalled = false := by
      rw [show freed.ctx x = if c = x then .blank (s.ctx c).serial else s.ctx x from State.ctx_setCtx s0 c x _]
      split
      · rfl
      · exact rests.stall x
    refine ⟨request, fun room => ⟨k, isBlocking, lowest, ends ?_ other ?_ ?_⟩, fun full => ends ?_ other ?_ ?_⟩
    · rw [State.hold_eq (s := back) room blocking]
      exact State.setEntry_setEntry InFlight.withoutCtx_tag dropped
        { freed with slt := { s.slt with held := s.slt.held ++ [{ tag := r.tag, lock := k }] } } r.tag
    · exact { up := rests.up, link := rests.link, commit := State.commitReady_of_not_committing noCommit, stall := free
              timer := rests.timer, owed := rfl }
    · exact tx.of_same rfl rfl rfl
    · rw [State.hold_full (s := back) full, State.answer_issued (s := back) rests.up entry issued]
      exact congrArg (fun t : State => { t with channel := { s.channel with
        responses := s.channel.responses ++ [QueuedResponse.entry r.tag], tx := s.channel.tx.busy } })
        (State.setEntry_setEntry (f := fun e =>
            { e with state := .answered, forward := none, ctx := none, data := [], response := some (.plain .busy) })
          (k := fun e =>
            { e with state := .answered, forward := none, ctx := none, data := [], response := some (.plain .busy) })
          InFlight.withoutCtx_tag (fun e => answered e _) freed r.tag)
    · exact { up := rests.up, link := rests.link, commit := State.commitReady_of_not_committing noCommit, stall := free
              timer := rests.timer, owed := rfl }
    · intro idle
      exact absurd idle (Transmitter.busy_ne_idle _)

end

section
/-! SUPPORT. A READ that takes a context: its lock (R63) and its peer READs (R82). -/
namespace Sys2Proof.Machine

variable {s : State}

/-! ## Peer READs admitted at once (R82) -/

/-- The READs admitted write the ports and the foreground count alone (R18, R57). -/
theorem State.peerReads_frame (s : State) (c : CtxId) (d : DriveOp) (ports : List PortId) :
    ∃ ports' pacing, s.peerReads c d ports = { s with ports := ports', pacing } := by
  induction ports generalizing s with
  | nil => exact ⟨_, _, rfl⟩
  | cons p ports ih =>
    have first : ∃ ports' pacing, (s.enlist p d).countContext c = { s with ports := ports', pacing } := by
      rw [State.enlist_eq, State.countContext]
      split <;> exact ⟨_, _, rfl⟩
    obtain ⟨ports1, pacing1, e1⟩ := first
    obtain ⟨ports2, pacing2, e2⟩ := ih { s with ports := ports1, pacing := pacing1 }
    refine ⟨ports2, pacing2, ?_⟩
    show ((s.enlist p d).countContext c).peerReads c d ports = _
    rw [e1, e2]

/-- The READ of a context depends on the context, the locks and the committed map alone (R62, R82). -/
theorem State.readOp_congr {t : State} {c : CtxId} (ctx : t.ctx c = s.ctx c) (slt : t.slt = s.slt)
    (target : t.target = s.target) : t.readOp c = s.readOp c := by
  unfold State.readOp State.ctxBase State.firstBlock State.stripBlocks
  rw [ctx, slt, target]

/-- Every port of a mask that is ONLINE with room admits its READ (R18, R82). -/
theorem offerReads_admitted {c : CtxId} {ports : List PortId} (nodup : ports.Nodup)
    (room : ∀ p ∈ ports, (s.port p).health = .online ∧ (s.port p).hasRoom = true) :
    offerReads c ports s = ([], s.peerReads c (s.readOp c) ports) := by
  induction ports generalizing s with
  | nil => rfl
  | cons p ports ih =>
    obtain ⟨fresh, rest⟩ := List.nodup_cons.1 nodup
    obtain ⟨online, fits⟩ := room p List.mem_cons_self
    have offered : s.offerContext c p (s.readOp c) = (.admitted, (s.enlist p (s.readOp c)).countContext c) := by
      rw [State.offerContext, if_neg (by simpa using online), if_pos fits]
    have frame : ∃ pacing, (s.enlist p (s.readOp c)).countContext c = { s.setPort p ((s.port p).admitting
        (s.now + s.target.policy.driveTimeoutMicros) (s.readOp c)) with pacing } := by
      rw [State.enlist_eq, State.countContext]
      split <;> exact ⟨_, rfl⟩
    obtain ⟨pacing, e⟩ := frame
    have others (q : PortId) (mem : q ∈ ports) : ((s.enlist p (s.readOp c)).countContext c).port q = s.port q := by
      rw [e]
      have apart : p ≠ q := by rintro rfl; exact fresh mem
      exact s.port_setPort_ne apart _
    have op : ((s.enlist p (s.readOp c)).countContext c).readOp c = s.readOp c := by
      rw [e]
      exact State.readOp_congr rfl rfl rfl
    rw [offerReads]
    simp only [offered]
    rw [if_neg (by simp), ih rest (fun q mem => by rw [others q mem]; exact room q (List.mem_cons_of_mem _ mem)), op]
    rfl

/-- A context whose lock is granted offers its READs, each admitted (R66, R82). -/
theorem State.startReading_admitted {c : CtxId} (nodup : (s.ctx c).mask.Nodup)
    (room : ∀ p ∈ (s.ctx c).mask, (s.port p).health = .online ∧ (s.port p).hasRoom = true) :
    s.startReading c = ([], (s.setCtx c { s.ctx c with state := .reading, outstanding := (s.ctx c).mask }).peerReads c
      (s.readOp c) (s.ctx c).mask) := by
  let t := s.setCtx c { s.ctx c with state := .reading, outstanding := (s.ctx c).mask }
  have op : t.readOp c = s.readOp c := by
    unfold State.readOp State.ctxBase
    rw [show t.ctx c = _ from s.ctx_setCtx_self c _]
    rfl
  rw [State.startReading, ← op]
  exact offerReads_admitted (s := t) nodup room

/-- The lock a context asks for (R63). -/
def State.askedLock (s : State) (c : CtxId) (stripe : Nat) : Lock :=
  let n := s.foregroundWrites (s.firstBlock stripe) (s.lastBlock stripe)
  { ctx := c, stripe, first := s.firstBlock stripe, last := s.lastBlock stripe, granted := n == 0, drain := n }

/-- A lock request at a free stripe (R63). -/
theorem State.lockRequest_free {c : CtxId} (free : s.locked (s.ctx c).stripe = false) : s.lockRequest c =
    (if s.foregroundWrites (s.firstBlock (s.ctx c).stripe) (s.lastBlock (s.ctx c).stripe) = 0 then [.startReading c] else [],
      { s with slt := { s.slt with locks := s.slt.locks ++ [s.askedLock c (s.ctx c).stripe] } }) := by
  rw [State.lockRequest, free]
  rfl

/-! ## The rows of the routing table that reconstruct (R47, R49) -/

/-- Only a READ of a member that is not ONLINE is reconstructed, for a mask in ascending order (R47, R49). -/
theorem State.routeOf_reconstruct {m : Nat} {p : PortId} {op : ReqOp} {stripe : Nat} {kind : CtxKind} {mask : List PortId}
    {target : Option PortId} {tm : Option Nat} (route : s.routeOf m p op stripe = .reconstruct kind mask target tm) :
    op = .read ∧ (s.port p).health ≠ .online ∧ kind ≠ .sweep ∧ mask.Pairwise (· < ·) := by
  unfold State.routeOf lostRoute at route
  repeat' split at route
  all_goals cases route
  all_goals exact ⟨by simp only [*], ‹_›, by simp, allPorts_ascending.filter _⟩

/-! ## A READ that takes a context (R49, R77, R78) -/

/-- A request whose routing ends in a state with nothing due but the transmitter's choice. -/
theorem State.Takes.exec_routed_run {op : MemberOp} {h : Header} {data : List Sector} {q : PortId} {place : Place}
    (hs : s.Takes h) (maps : s.Maps h q place) {more : List Work} {t u : State}
    (routed : (s.placing op h data place).route h.tag.toNat false = (more, t))
    (ends : run (Config.cascadeBound - 2) (more ++ [.settle]) t = some u) : exec (memberRequest op h data) s = .next u := by
  rw [memberRequest, exec_memberFrame]
  apply receive_eq hs.toRests hs.room
  have route : handle (.route h.tag.toNat false) (s.placing op h data place) = (more, t) := routed
  rw [hs.takeFrame_mapped maps, List.cons_append, List.nil_append, run_step (by decide) route]
  exact ends

theorem State.foregroundCtx_lowest {c : CtxId} (few : s.foregroundInUse < 6) (free : (s.ctx c).state = .free)
    (lowest : ∀ k, k < c → (s.ctx k).state ≠ .free) : s.foregroundCtx = some c := by
  rw [State.foregroundCtx, if_pos few]
  exact find?_lowest allCtxs_ascending (mem_allCtxs c) (by simp [free]) (fun k below => by simpa using lowest k below)

/-- The context record of a request, its blocks by its kind (R49, R78). -/
theorem State.requestCtx_eq (s : State) (c : CtxId) (e : InFlight) (place : Place) (kind : CtxKind) (mask : List PortId)
    (target : Option PortId) (tm : Option Nat) : s.requestCtx c e place kind mask target tm =
      Context.taken ((s.ctx c).serial + 1) kind place.stripe (if kind = .fill then 0 else place.offset)
        (if kind = .fill then s.stripBlocks else e.count) mask target tm (.tag e.tag) := by
  unfold State.requestCtx
  split <;> rfl

end Sys2Proof.Machine

open Sys2Proof Sys2Proof.Machine

/-- Settles O17: the context taken, its lock request at once or put off, and its READs (R49, R63, R77, R82). -/
theorem readTakesContext : Obligations.ReadTakesContext := by
  intro s op h data q place kind mask target tm c takes tx maps unlocked reconstruct empty few free lowest unlockedCtx
    e fresh first n lock took locks owing late
  obtain ⟨isRead, offline, notSweep, ascending⟩ := State.routeOf_reconstruct reconstruct
  have stripeFree : s.locked place.stripe = false := by
    have : (s.port q).health != .online := by simpa using offline
    simpa [State.lockHolds, isRead, this] using unlocked
  let u := s.placing op h data place
  let taken (late : List Bool) : State := (took late).setCtx c fresh
  have routed : u.route h.tag.toNat false =
      if s.engine.putsOff then ([], owing late.tail) else (taken late.tail).lockRequest c := by
    have available : (if false = true ∨ u.engine.waitList = [] then u.foregroundCtx else none) = some c := by
      rw [if_pos (.inr empty)]
      exact State.foregroundCtx_lowest (s := u) few free lowest
    have joined : (u.setCtx c fresh).setEntry h.tag.toNat (fun x => { x with state := .issued, ctx := some c }) =
        (s.addEntry e).setCtx c fresh :=
      congrArg (fun t : State => t.setCtx c fresh) (takes.setEntry_placing (op := op) (data := data) (place := place)
        (fun x => { x with state := .issued, ctx := some c }))
    have context : u.requestCtx c (placedEntry op h data place) place kind mask target tm = fresh :=
      State.requestCtx_eq _ _ _ _ _ _ _ _
    have taking : u.reconstruct (placedEntry op h data place) place kind mask target tm false =
        if s.engine.putsOff then ([], owing late.tail) else (taken late.tail).lockRequest c := by
      simp only [State.reconstruct, available, context]
      rw [show (placedEntry op h data place).tag = h.tag.toNat from rfl, joined]
      rfl
    rw [takes.route_eq maps, unlocked, reconstruct]
    exact taking
  -- how a step ends that leaves the table, the contexts and the locks so
  have settles {t : State} {k : Nat} (hk : 0 < k) (channel : t.channel = s.channel) (notices : t.notices = s.notices)
      (now : t.now = s.now) (target : t.target = s.target) (job : t.job = s.job)
      (ctxs : ∀ x, (t.ctx x).stalled = false) : run k [.settle] t = some t := by
    have commit : t.commitReady = none :=
      State.commitReady_of_not_committing (by rw [State.committing, target]; exact maps.noCommit)
    have timer : t.settleDue = false := by
      have : t.settleDue = s.settleDue := by simp only [State.settleDue, job, now]
      rw [this]; exact takes.timer
    rw [run_settle hk (by rw [channel]; exact takes.link) commit ctxs timer,
      State.transmit_of_rests _ (tx.of_same channel notices now)]
  have unstalled (x : Context) (hx : x.stalled = false) (late : List Bool) (d : CtxId) :
      (((took late).setCtx c x).ctx d).stalled = false := by
    rw [State.ctx_setCtx]
    split
    · exact hx
    · exact takes.stall d
  have asks (late : List Bool) (k : Nat) (hk : 1 < k) (result : Result)
      (runs : ∀ t, run k (((taken late).lockRequest c).1 ++ [.settle]) ((taken late).lockRequest c).2 = some t →
        result = .next t) : locks late result := by
    have context : (taken late).ctx c = fresh := State.ctx_setCtx_self _ _ _
    let locked : State := (({ took late with slt := { s.slt with locks := s.slt.locks ++ [lock] } } : State)).setCtx c fresh
    have request : (taken late).lockRequest c = (if n = 0 then [.startReading c] else [], locked) := by
      have stripe : ((taken late).ctx c).stripe = place.stripe := by rw [context]; rfl
      rw [State.lockRequest_free (by rw [stripe]; exact stripeFree), stripe]
      rfl
    rw [request] at runs
    refine ⟨fun some_ => runs _ ?_, fun none_ room => ?_⟩
    · rw [if_neg some_, List.nil_append]
      exact settles (t := locked) (by omega) rfl rfl rfl rfl rfl (unstalled fresh rfl late)
    · intro read
      apply runs
      have here : locked.ctx c = fresh := State.ctx_setCtx_self _ _ _
      have op : locked.readOp c = read := by
        have base : locked.slt.locks.find? (fun l => l.ctx == c) = some lock := by
          have others : s.slt.locks.find? (fun l => l.ctx == c) = none :=
            List.find?_eq_none.2 (fun l mem => by simpa using unlockedCtx l mem)
          rw [show locked.slt.locks = s.slt.locks ++ [lock] from rfl, List.find?_append, others]
          simp [lock]
        simp only [State.readOp, State.ctxBase, base, here]
        rfl
      have reading : handle (.startReading c) locked = ([], (locked.setCtx c
          { fresh with state := .reading, outstanding := mask }).peerReads c read mask) := by
        have admitted := State.startReading_admitted (s := locked) (c := c)
          (by rw [here]; exact ascending.imp ne_of_lt) (by rw [here]; exact room)
        rw [here, op] at admitted
        exact admitted
      obtain ⟨ports, pacing, frame⟩ := State.peerReads_frame
        (({ took late with slt := { s.slt with locks := s.slt.locks ++ [lock] } } : State).setCtx c
          { fresh with state := .reading, outstanding := mask }) c read mask
      rw [if_pos none_, List.cons_append, List.nil_append, run_step (by omega) reading, List.nil_append,
        show locked.setCtx c { fresh with state := .reading, outstanding := mask } = _ from State.setCtx_setCtx _ _ _ _, frame]
      exact settles (by omega) rfl rfl rfl rfl rfl (unstalled _ rfl late)
  have again (late : List Bool) : (owing late).asking = taken late.tail :=
    congrArg (fun owed => ({ took late.tail with engine := { s.engine with late := late.tail, owed } } : State).setCtx c fresh)
      takes.owed.symm
  have wakes {t : State} (effects : run (Config.cascadeBound - 1) [.lockDue, .settle] (owing late.tail) = some t) :
      exec .upstreamLinkUp (owing late.tail) = .next t := by
    refine exec_linkUp_owing (s := owing late.tail) (c := c) takes.up takes.link
      (State.commitReady_of_not_committing maps.noCommit) (unstalled fresh rfl late.tail) takes.timer
      (tx.of_same rfl rfl rfl) rfl effects
  have turns : s.engine.putsOff = true ↔ late[0]? = some true := by
    simp [Engine.putsOff, late, List.head?_eq_getElem?]
  refine ⟨fun now => asks late.tail _ (by decide) _ (fun t ends => takes.exec_routed_run maps ?_ ends), fun later => ⟨?_, ?_, ?_⟩⟩
  · rw [routed, if_neg (mt turns.1 now)]
  · refine takes.exec_routed_run maps (by rw [routed, if_pos (turns.2 later)]) ?_
    exact settles (t := owing late.tail) (by decide) rfl rfl rfl rfl rfl (unstalled fresh rfl late.tail)
  · intro now
    refine asks late.tail.tail (Config.cascadeBound - 2) (by decide) _ (fun t ends => wakes ?_)
    have due : handle .lockDue (owing late.tail) =
        (((taken late.tail.tail).lockRequest c).1, ((taken late.tail.tail).lockRequest c).2) := by
      have context : (owing late.tail).ctx c = fresh := State.ctx_setCtx_self _ _ _
      have head : (owing late.tail).engine.late.head? ≠ some true := by
        show late.tail.head? ≠ some true
        simpa [List.head?_eq_getElem?] using now
      rw [← again, ← State.lockDue_asks (s := owing late.tail) rfl head (by rw [context]; rfl) (by rw [context]; exact notSweep)]
      rfl
    rw [run_step (by decide) due]
    exact ends
  · intro later'
    have due : handle .lockDue (owing late.tail) = ([], owing late.tail.tail) := by
      have turn : (owing late.tail).engine.putsOff = true := by
        have head : late.tail.head? = some true := by simpa [List.head?_eq_getElem?] using later'
        show (late.tail.head? == some true) = true
        rw [head]
        rfl
      have isOwed : (owing late.tail).engine.owed.isSome = true := rfl
      simp only [handle, State.lockDue, isOwed, turn, if_true]
      rfl
    refine wakes ?_
    rw [run_step (by decide) due, List.nil_append]
    exact settles (t := owing late.tail.tail) (by decide) rfl rfl rfl rfl rfl (unstalled fresh rfl late.tail.tail)

end

section
/-! SUPPORT. Completions and expiries of a port's operations (R22 to R27): masks, error counts, orphans, and the deferred
operation that a departure admits. -/
namespace Sys2Proof.Machine

variable {s : State} {p : PortId} {id : Nat} {e : ListEntry} {x : InFlight}

/-! ## What a READ's masks say (R22, R54) -/

/-- Masks as many as the blocks are taken as they stand (R22). -/
theorem fitMasks_of_length {masks : List Byte} {count : Nat} (length : masks.length = count) :
    fitMasks count masks = masks := by
  apply List.ext_getElem
  · simp [fitMasks, length]
  · intro i _ inside
    simp [fitMasks, inside]

theorem normalise_unreadable {op : DriveOp} (kind : op.kind = .read) {data : List Sector} {masks : List Byte}
    (blocks : masks.length = op.count) (sectors : data.length = 8 * op.count) (named : ∃ mask ∈ masks, mask ≠ 0) (p : PortId)
    (id : Nat) : normalise p id op (.unreadable data masks) = .unreadable data masks := by
  have some_ : masks.all (· == 0) = false := by
    rw [List.all_eq_false]
    obtain ⟨mask, mem, other⟩ := named
    exact ⟨mask, mem, by simpa using other⟩
  simp only [normalise, kind, if_true, fitMasks_of_length blocks, some_, Bool.false_eq_true, if_false, fitData, if_pos sectors]

theorem normalise_unnamed {op : DriveOp} (kind : op.kind = .read) {data : List Sector} {masks : List Byte}
    (blocks : masks.length = op.count) (sectors : data.length = 8 * op.count) (none_ : ∀ mask ∈ masks, mask = 0) (p : PortId)
    (id : Nat) : normalise p id op (.unreadable data masks) = .good data := by
  have all : masks.all (· == 0) = true := by simpa using none_
  simp only [normalise, kind, if_true, fitMasks_of_length blocks, all, fitData, if_pos sectors]

theorem normalise_unreadable_other {op : DriveOp} (kind : op.kind ≠ .read) (p : PortId) (id : Nat) (data : List Sector)
    (masks : List Byte) : normalise p id op (.unreadable data masks) = .fault := if_neg kind

/-- The first block a list of masks names is the lowest whose mask is not 0 (R54). -/
theorem firstBad_eq {masks : List Byte} {b : Nat} {mask : Byte} (at_ : masks[b]? = some mask) (named : mask ≠ 0)
    (before : ∀ a, a < b → masks[a]? = some 0) : firstBad masks = (b, mask) := by
  have inside : b < masks.length := (List.getElem?_eq_some_iff.1 at_).1
  have here : masks.getD b 0 = mask := by simp [List.getD_eq_getElem?_getD, at_]
  have found : (List.range masks.length).find? (fun b => masks.getD b 0 != 0) = some b :=
    find?_lowest List.pairwise_lt_range (List.mem_range.2 inside) (by rw [here]; simpa using named)
      (fun a below => by simp [List.getD_eq_getElem?_getD, before a below])
  rw [firstBad, found]
  exact congrArg (Prod.mk b) here

/-! ## The raise of an error count (R24, R25, R26) -/

/-- The port's count after one more error (R25). -/
def State.raised (s : State) (p : PortId) : State :=
  s.setPort p { s.port p with errors := min ((s.port p).errors + 1) 15 }

/-- Whether one more error fails the port (R26). -/
theorem State.countError_stays (safe : s.target.policy.autoFail = false ∨
    min ((s.port p).errors + 1) 15 < s.target.policy.failThreshold ∨ (s.port p).health ≠ .online) :
    s.countError p = ([], s.raised p) := by
  have stays : ¬ (s.target.policy.autoFail = true ∧ (s.port p).health = .online ∧
      s.target.policy.failThreshold ≤ min ((s.port p).errors + 1) 15) := by
    rintro ⟨on, online, reached⟩
    rcases safe with off | below | other
    · rw [off] at on; cases on
    · omega
    · exact other online
  exact if_neg stays

/-- An operation has left its port's list, and its outcome comes (R22, R24): what a port's event brings, with its state. -/
def State.gone (s : State) (p : PortId) (id : Nat) : State := s.setPort p ((s.port p).without id)

/-- A drive's completion of an outstanding entry (R22). -/
theorem exec_completion (entry : (s.port p).outstanding? id = some e) {report : Report} {out : Outcome}
    (hn : normalise p id e.op report = out) {work : List Work} {t u : State} {k : Nat}
    (departs : (s.gone p id).departed p e.op out (decide (out = .fault)) = (work, t)) (owed : t.engine.owed = none)
    (effects : Brings k (work ++ [.afterDeparture p]) t u) (hk : k < Config.cascadeBound) (rests : u.Rests) :
    exec (.driveCompletion p id report) s = .next u.transmit := by
  have found : ((s.port p).outstanding? id).isSome = true := by rw [entry]; rfl
  have completes : s.driveCompletion p id report = (work ++ [.afterDeparture p], t) := by
    simp only [State.driveCompletion, entry, hn]
    rw [show s.setPort p ((s.port p).without id) = s.gone p id from rfl, departs]
  show execDriveCompletion p id report s = _
  rw [execDriveCompletion, if_pos found, completes]
  exact effects.cascade owed hk rests

/-- The expiry of an outstanding entry's deadline (R24): the clock has come to it. -/
theorem exec_expiry (entry : (s.port p).outstanding? id = some e) {i : Issue} (issue : e.issue = some i) {work : List Work}
    {t u : State} {k : Nat} (departs : ((s.advanceTo i.deadline).gone p id).departed p e.op .missing true = (work, t))
    (owed : t.engine.owed = none) (effects : Brings k (work ++ [.afterDeparture p]) t u) (hk : k < Config.cascadeBound)
    (rests : u.Rests) : exec (.driveTimeout p id) s = .next u.transmit := by
  have found : ((s.port p).outstanding? id).isSome = true := by rw [entry]; rfl
  have expires : s.driveTimeout p id = (work ++ [.afterDeparture p], t) := by
    simp only [State.driveTimeout, entry, issue]
    rw [show (s.setPort p ((s.port p).without id)).advanceTo i.deadline = (s.advanceTo i.deadline).gone p id from rfl, departs]
  show execDriveTimeout p id s = _
  rw [execDriveTimeout, if_pos found, expires]
  exact effects.cascade owed hk rests

/-- Such a bridge at a later moment, no settle timer due by then. -/
theorem State.Outstanding.advanced (h : s.Outstanding p id e) {due : Nat} (timer : (s.advanceTo due).settleDue = false) :
    (s.advanceTo due).Outstanding p id e :=
  { toRests := h.toRests.timed timer s.pacing, entry := h.entry, deferred := h.deferred, noCommit := h.noCommit }

theorem State.Carries.advanced (h : s.Carries p id e x) {due : Nat} (timer : (s.advanceTo due).settleDue = false) :
    (s.advanceTo due).Carries p id e x :=
  { toOutstanding := h.toOutstanding.advanced timer, orig := h.orig, request := h.request, issued := h.issued
    drains := h.drains }

/-- The issue rule follows a departure at a port with nothing deferred (R19, R20). -/
theorem Brings.departed {t : State} (deferred : (t.port p).deferred = []) : Brings 1 [.afterDeparture p] t (t.issue p) :=
  .one (congrArg (Prod.mk []) (State.afterDeparture_of_no_deferred deferred))

/-- A FAULT or an expiry raises the count and is answered TIMEOUT at a port that is not FAILED (R24, R25, R53). -/
theorem State.Carries.timesOut (h : s.Carries p id e x) (alive : (s.port p).health ≠ .failed)
    (safe : s.target.policy.autoFail = false ∨ min ((s.port p).errors + 1) 15 < s.target.policy.failThreshold ∨
      (s.port p).health ≠ .online) {out : Outcome} (lost : out = .fault ∨ out = .missing) :
    Brings 3 ([.countError p, .deliver p e.op out] ++ [.afterDeparture p]) (s.gone p id)
      ((s.left p id (min ((s.port p).errors + 1) 15)).withResponse x.tag (.plain .timeout)) := by
  let v := (s.gone p id).raised p
  have port : (s.gone p id).port p = (s.port p).without id := s.port_setPort_self p _
  have v_eq : v = s.setPort p { (s.port p).without id with errors := min ((s.port p).errors + 1) 15 } := by
    show (s.gone p id).setPort p _ = _
    rw [port]
    exact s.setPort_setPort p _ _
  have v_port : v.port p = { (s.port p).without id with errors := min ((s.port p).errors + 1) 15 } := by
    rw [v_eq, State.port_setPort_self]
  have counted : handle (.countError p) (s.gone p id) = ([], v) :=
    State.countError_stays (by rw [port]; exact safe)
  have request : v.entry? x.tag = some x := h.request
  have delivered : handle (.deliver p e.op out) v = ([], v.withResponse x.tag (.plain .timeout)) := by
    have answered : v.answer x.tag (.plain .timeout) = v.withResponse x.tag (.plain .timeout) :=
      State.answer_issued (s := v) h.up request h.issued _
    have alive' : (v.port p).health ≠ .failed := by rw [v_port]; exact alive
    rcases lost with rfl | rfl <;>
      simp only [handle, State.deliver, h.orig, State.routerOutcome, request, h.issued, ne_eq, not_true, if_false, alive',
        answered]
  have issued : (v.withResponse x.tag (.plain .timeout)).issue p =
      (s.left p id (min ((s.port p).errors + 1) 15)).withResponse x.tag (.plain .timeout) := by
    rw [State.issue_withResponse, State.left, v_eq]
  have departed : Brings 1 [.afterDeparture p] (v.withResponse x.tag (.plain .timeout))
      ((v.withResponse x.tag (.plain .timeout)).issue p) :=
    .departed (by
      show (v.port p).deferred = []
      rw [v_port]; exact h.deferred)
  rw [← issued]
  exact .step counted (.step delivered departed)

/-- A bridge at rest whose request has been answered after its entry left. -/
theorem State.Rests.left_answered (h : s.Rests) (noCommit : s.committing = false) (p : PortId) (id n tag : Nat) (r : Response) :
    ((s.left p id n).withResponse tag r).Rests := by
  obtain ⟨rests, none_⟩ := h.left noCommit p id n
  exact { up := rests.up, link := rests.link, commit := State.commitReady_of_not_committing none_, stall := rests.stall
          timer := rests.timer, owed := rests.owed }

/-! ## Orphans (R27), and the deferred operation a departure admits (R19) -/

theorem State.deliver_orphan {op : DriveOp} (orphan : op.orig = .orphan) (s : State) (p : PortId) (out : Outcome) :
    s.deliver p op out = ([], s) := by
  simp only [State.deliver, orphan]

/-- The entry outstanding under this identity. -/
def ListEntry.isIssue (id : Nat) (e : ListEntry) : Bool :=
  match e.issue with
  | some i => i.id == id
  | none => false

theorem Port.outstanding?_eq (x : Port) (id : Nat) : x.outstanding? id = x.list.find? (·.isIssue id) := rfl

theorem Port.without_list (x : Port) (id : Nat) : (x.without id).list = x.list.eraseP (·.isIssue id) := rfl

/-- A list loses one entry with the operation that leaves it. -/
theorem Port.length_without {x : Port} {e : ListEntry} (found : x.outstanding? id = some e) :
    (x.without id).list.length + 1 = x.list.length := by
  rw [Port.outstanding?_eq] at found
  rw [Port.without_list]
  exact List.length_eraseP_add_one (List.mem_of_find?_eq_some found) (List.find?_some (p := ListEntry.isIssue id) found)

/-- The issue rule keeps the number of entries (R20). -/
theorem State.length_issue (s : State) (p : PortId) : ((s.issue p).port p).list.length = (s.port p).list.length := by
  obtain ⟨list, nextId, issued, ops⟩ := s.issue_spec p
  rw [issued, State.port_setPort_self]
  simpa using congrArg List.length ops

end Sys2Proof.Machine

open Sys2Proof Sys2Proof.Machine

/-- Settles O22: what the masks name is what the router answers (R22, R54). -/
theorem forwardedUnreadable : Obligations.ForwardedUnreadable := by
  intro s p id e x place data masks carries isRead kind placed blocks sectors t result
  refine ⟨fun b mask at_ named before => ?_, fun none_ => ?_⟩
  · have some_ : ∃ mask ∈ masks, mask ≠ 0 := ⟨mask, List.mem_of_getElem? at_, named⟩
    refine carries.exec_completion (normalise_unreadable kind blocks sectors some_ p id) (by simp) (fun u request => ?_)
    simp only [State.routerOutcome, request, carries.issued, ne_eq, not_true, if_false, placed, firstBad_eq at_ named before]
  · have answered := carries.exec_good (normalise_unnamed kind blocks sectors none_ p id)
    rwa [if_pos isRead] at answered

/-- Settles O23, by the departure with its raise of the error count (R24, R25, R53). -/
theorem forwardedFaultOrTimeout : Obligations.ForwardedFaultOrTimeout := by
  intro s p id e x carries alive n safe
  have faults {report : Report} (fault : normalise p id e.op report = .fault) : exec (.driveCompletion p id report) s =
      .next ((s.left p id n).withResponse x.tag (.plain .timeout)) := by
    have drains : ∀ l ∈ (s.gone p id).slt.locks, l.drains e.op.addr = false := carries.drains
    rw [exec_completion carries.entry fault (State.departed_of_no_drain drains p .fault _) carries.owed
      (carries.timesOut alive safe (.inl rfl)) (by decide) (carries.toRests.left_answered carries.noCommit _ _ _ _ _),
      State.transmit_withResponse]
  refine ⟨faults rfl, fun data masks kind => faults (normalise_unreadable_other kind _ _ _ _), fun i issue timer => ?_⟩
  have later := carries.advanced timer
  have drains : ∀ l ∈ ((s.advanceTo i.deadline).gone p id).slt.locks, l.drains e.op.addr = false := carries.drains
  rw [exec_expiry carries.entry issue (State.departed_of_no_drain drains p .missing true) carries.owed
    (later.timesOut alive safe (.inr rfl)) (by decide) (later.toRests.left_answered later.noCommit _ _ _ _ _),
    State.transmit_withResponse]
  rfl

/-- Settles O25: no entry, an orphan's entry, and the deferred operation that takes its place (R19, R22, R27). -/
theorem unmatchedAndOrphan : Obligations.UnmatchedAndOrphan := by
  refine ⟨fun s p id none_ => ⟨fun report => ?_, ?_⟩, fun s p id e out tx orphan drains => ⟨fun data => ?_, fun off => ?_⟩,
    fun s p id e op rest c n data quiet entry orphan drains online fits deferred orig => ?_⟩
  · show execDriveCompletion p id report s = _
    rw [execDriveCompletion, none_]
    rfl
  · show execDriveTimeout p id s = _
    rw [execDriveTimeout, none_]
    rfl
  · have delivered : handle (.deliver p e.op (.good (if e.op.kind = .read then fitData p id e.op.count data else [])))
        (s.gone p id) = ([], s.gone p id) := State.deliver_orphan orphan _ _ _
    have rests := (out.toRests.left out.noCommit p id (s.port p).errors).1
    have after : Brings 1 [.afterDeparture p] (s.gone p id) (s.left p id (s.port p).errors) :=
      .departed (by rw [State.gone, State.port_setPort_self]; exact out.deferred)
    rw [exec_completion out.entry rfl (State.departed_of_no_drain (s := s.gone p id) drains p _ _) out.owed
      (.step delivered after) (by decide) rests]
    rw [State.transmit_of_rests _ (tx.of_same (by simp [State.left]) (by simp [State.left]) (by simp [State.left]))]
  · let n := min ((s.port p).errors + 1) 15
    let v := (s.gone p id).raised p
    have port : (s.gone p id).port p = (s.port p).without id := s.port_setPort_self p _
    have v_eq : v = s.setPort p { (s.port p).without id with errors := n } := by
      show (s.gone p id).setPort p _ = _
      rw [port]
      exact s.setPort_setPort p _ _
    have counted : handle (.countError p) (s.gone p id) = ([], v) := State.countError_stays (.inl off)
    have delivered : handle (.deliver p e.op .fault) v = ([], v) := State.deliver_orphan orphan _ _ _
    have after : Brings 1 [.afterDeparture p] v (s.left p id n) := by
      rw [State.left, ← v_eq]
      exact .departed (by rw [v_eq, State.port_setPort_self]; exact out.deferred)
    have rests := (out.toRests.left out.noCommit p id n).1
    rw [exec_completion out.entry rfl (State.departed_of_no_drain (s := s.gone p id) drains p _ _) out.owed
      (.step counted (.step delivered after)) (by decide) rests]
    rw [State.transmit_of_rests _ (tx.of_same (by simp [State.left]) (by simp [State.left]) (by simp [State.left]))]
  · intro left joined
    have delivered : handle (.deliver p e.op (.good (if e.op.kind = .read then fitData p id e.op.count data else [])))
        (s.gone p id) = ([], s.gone p id) := State.deliver_orphan orphan _ _ _
    obtain ⟨list, nextId, issued, -⟩ := (s.gone p id).issue_spec p
    have port : (s.gone p id).port p = (s.port p).without id := s.port_setPort_self p _
    have left_port : left.port p = { (s.port p).without id with list, nextId } := by
      show ((s.gone p id).issue p).port p = _
      rw [issued, State.port_setPort_self, port]
    have room : (left.port p).list.length < Config.listBound := by
      have shorter := Port.length_without entry
      have kept : (left.port p).list.length = ((s.gone p id).port p).list.length := State.length_issue _ _
      rw [kept, port, show Config.listBound = 72 from rfl]
      omega
    have health : (left.port p).health = .online := by rw [left_port]; exact online
    have waits : (left.port p).deferred = op :: rest := by rw [left_port]; exact deferred
    have joins : (s.gone p id).afterDeparture p = joined.countContext c := by
      have fitting : (((s.gone p id).issue p).port p).health = .online ∧
          (((s.gone p id).issue p).port p).list.length < Config.listBound := ⟨health, room⟩
      have waiting : (((s.gone p id).issue p).port p).deferred = op :: rest := waits
      simp only [State.afterDeparture, waiting, if_pos fitting, orig]
      rfl
    have after : Brings 1 [.afterDeparture p] (s.gone p id) (joined.countContext c) := .one (congrArg (Prod.mk []) joins)
    obtain ⟨ports, frame⟩ : ∃ ports, joined = { s with ports } := by
      obtain ⟨y, left_eq⟩ : ∃ y, left = s.setPort p y := ⟨_, by
        show (s.gone p id).issue p = _
        rw [issued, State.gone, State.setPort_setPort]⟩
      have joined_eq : joined = (left.setPort p { left.port p with deferred := rest }).enlist p op := rfl
      rw [joined_eq, State.enlist_eq, State.setPort_setPort, left_eq, State.setPort_setPort]
      exact ⟨_, rfl⟩
    have counted : joined.countContext c = if (s.ctx c).kind = .sweep then joined else { joined with pacing := { s.pacing with
        fg := min (s.pacing.fg + 1) 65535 } } := by
      rw [frame]
      rfl
    have kept : (joined.countContext c).engine = s.engine ∧ (joined.countContext c).Rests ∧ (joined.countContext c).txRests := by
      rw [counted, frame]
      split
      · exact ⟨rfl, quiet.toRests.of_same quiet.timer quiet.commit rfl rfl rfl rfl, quiet.tx.of_same rfl rfl rfl⟩
      · exact ⟨rfl, quiet.toRests.of_same quiet.timer quiet.commit rfl rfl rfl rfl, quiet.tx.of_same rfl rfl rfl⟩
    obtain ⟨-, rests, tx⟩ := kept
    rw [exec_completion entry rfl (State.departed_of_no_drain (s := s.gone p id) drains p _ _) quiet.owed
      (.step delivered after) (by decide) rests, State.transmit_of_rests _ tx, counted]

end

section
/-! SUPPORT. The grant of a drained lock (R65, R66, R82), and the expiry that fails a member (R26, R32, R50). -/
namespace Sys2Proof.Machine

variable {s : State} {p : PortId} {id : Nat} {e : ListEntry} {x : InFlight}

/-! ## Ports that READs are admitted to -/

theorem Port.issuing_deferred (deadline : Nat) (x : Port) : (x.issuing deadline).deferred = x.deferred := by
  unfold Port.issuing; split <;> rfl

/-- An admission leaves every port's deferred queue as it is (R18, R20). -/
theorem State.enlist_deferred (s : State) (p : PortId) (d : DriveOp) (q : PortId) :
    ((s.enlist p d).port q).deferred = (s.port q).deferred := by
  rw [State.enlist_eq, State.port_setPort]
  split
  · next same => rw [Port.admitting, Port.issuing_deferred, ← same]
  · rfl

theorem State.peerReads_deferred (s : State) (c : CtxId) (d : DriveOp) (ports : List PortId) (q : PortId) :
    ((s.peerReads c d ports).port q).deferred = (s.port q).deferred := by
  induction ports generalizing s with
  | nil => rfl
  | cons p ports ih =>
    have counted (t : State) : (t.countContext c).port q = t.port q := by
      unfold State.countContext; split <;> rfl
    exact (ih ((s.enlist p d).countContext c)).trans ((congrArg Port.deferred (counted _)).trans (s.enlist_deferred p d q))

/-! ## The grant (R66, R82) -/

/-- A context whose lock is granted reads, where its mask's ports are open (R66, R82). -/
theorem State.grant_reads {c : CtxId} {l : Lock} (mem : l ∈ s.slt.locks) (owner : l.ctx = c)
    (alone : ∀ k ∈ s.slt.locks, k.ctx = c → k = l) (open_ : s.maskOpen c) :
    ∃ g, s.grant c = ([.startReading c], g) ∧ g.startReading c = ([], s.reading c l.first) ∧ g.engine = s.engine := by
  obtain ⟨nodup, room⟩ := open_
  let g : State := { s with slt := { s.slt with
    locks := s.slt.locks.map (fun l => if l.ctx = c then { l with granted := true, drain := 0 } else l) } }
  have base : g.slt.locks.find? (fun l => l.ctx == c) = some { l with granted := true, drain := 0 } := by
    have same : ((fun l : Lock => l.ctx == c) ∘ fun l => if l.ctx = c then { l with granted := true, drain := 0 } else l) =
        fun l => l.ctx == c := by
      funext k
      simp only [Function.comp]
      split <;> rfl
    have found : s.slt.locks.find? (fun l => l.ctx == c) = some l := by
      cases found : s.slt.locks.find? (fun l => l.ctx == c) with
      | none => exact absurd owner (by simpa using List.find?_eq_none.1 found l mem)
      | some k => rw [alone k (List.mem_of_find?_eq_some found) (by simpa using List.find?_some found)]
    show (s.slt.locks.map _).find? _ = _
    rw [List.find?_map, same, found, Option.map_some, if_pos owner]
  have op : g.readOp c = { kind := .read, addr := l.first + (s.ctx c).first, count := (s.ctx c).count
                           orig := .ctx c (s.ctx c).serial, fgWrite := false, payload := .none } := by
    simp only [State.readOp, State.ctxBase, base]
    rfl
  have reads := State.startReading_admitted (s := g) (c := c) nodup room
  rw [op] at reads
  exact ⟨g, rfl, reads, rfl⟩

/-- A context in READING has written the locks, the contexts, the ports and the foreground count (R66, R82). -/
theorem State.reading_frame (s : State) (c : CtxId) (base : Nat) : ∃ locks ports pacing, s.reading c base =
    { s.setCtx c { s.ctx c with state := .reading, outstanding := (s.ctx c).mask } with
      slt := { s.slt with locks }, ports, pacing } := by
  obtain ⟨ports, pacing, frame⟩ := State.peerReads_frame (({ s with slt := { s.slt with
    locks := s.slt.locks.map (fun l => if l.ctx = c then { l with granted := true, drain := 0 } else l) } } : State).setCtx c
      { s.ctx c with state := .reading, outstanding := (s.ctx c).mask }) c
      { kind := .read, addr := base + (s.ctx c).first, count := (s.ctx c).count, orig := .ctx c (s.ctx c).serial
        fgWrite := false, payload := .none } (s.ctx c).mask
  exact ⟨_, ports, pacing, frame⟩

/-- A bridge at rest is so still once a context reads (R66). -/
theorem State.Rests.reading (h : s.Rests) (c : CtxId) (base : Nat) : (s.reading c base).Rests := by
  obtain ⟨locks, ports, pacing, frame⟩ := s.reading_frame c base
  rw [frame]
  refine { up := h.up, link := h.link, commit := h.commit, stall := fun d => ?_, timer := h.timer, owed := h.owed }
  show (State.ctx (s.setCtx c _) d).stalled = false
  rw [State.ctx_setCtx]
  split
  · exact h.stall c
  · exact h.stall d

/-! ## The report of a departure (R65) -/

/-- The report to the one DRAINING lock over an address (R65). -/
theorem State.drainReport_alone {addr : Nat} {l : Lock} (mem : l ∈ s.slt.locks) (drains : l.drains addr = true)
    (alone : ∀ k ∈ s.slt.locks, k.drains addr = true → k = l) : s.drainReport addr =
      if l.drain ≤ 1 then s.grant l.ctx
      else ([], { s with slt := { s.slt with
        locks := s.slt.locks.map (fun k => if k.ctx = l.ctx then { k with drain := k.drain - 1 } else k) } }) := by
  have found : s.slt.locks.find? (·.drains addr) = some l := by
    cases found : s.slt.locks.find? (·.drains addr) with
    | none => exact absurd drains (by simpa using List.find?_eq_none.1 found l mem)
    | some k => rw [alone k (List.mem_of_find?_eq_some found) (List.find?_some (p := (Lock.drains · addr)) found)]
  simp only [State.drainReport, found]

/-- A WRITE's GOOD outcome answers its request, and the port goes on (R20, R22, R52). -/
theorem Brings.write_answered {t : State} {op : DriveOp} {data : List Sector} (orig : op.orig = .tag x.tag)
    (request : t.entry? x.tag = some x) (issued : x.state = .issued) (isWrite : x.op = .write) (up : t.channel.up = true)
    (deferred : (t.port p).deferred = []) :
    Brings 2 [.deliver p op (.good data), .afterDeparture p] t ((t.issue p).withResponse x.tag (.plain .good)) := by
  have notRead : x.op ≠ .read := by rw [isWrite]; simp
  have delivered : handle (.deliver p op (.good data)) t = ([], t.withResponse x.tag (.plain .good)) := by
    have answer : t.answer x.tag { status := .good, payload := .none } = t.withResponse x.tag (.plain .good) :=
      State.answer_issued up request issued _
    simp only [handle, State.deliver, orig, State.routerOutcome_good request issued, if_neg notRead, answer]
  have after : Brings 1 [.afterDeparture p] (t.withResponse x.tag (.plain .good))
      ((t.withResponse x.tag (.plain .good)).issue p) := .departed deferred
  rw [State.issue_withResponse] at after
  exact .step delivered after

/-- An answer joins a bridge at rest with no commit in its drain. -/
theorem State.Rests.withResponse (h : s.Rests) (noCommit : s.committing = false) (tag : Nat) (r : Response) :
    (s.withResponse tag r).Rests :=
  { up := h.up, link := h.link, commit := State.commitReady_of_not_committing noCommit, stall := h.stall, timer := h.timer
    owed := h.owed }

/-- The issue rule hinders nothing that could be due (R20). -/
theorem State.Rests.issue (h : s.Rests) (p : PortId) : (s.issue p).Rests := by
  rw [State.issue_eq]
  exact h.of_same h.timer h.commit rfl rfl rfl rfl

@[simp] theorem State.issue_committing (s : State) (p : PortId) : (s.issue p).committing = s.committing := by
  rw [State.committing, State.committing, State.issue_target]

/-! ## A new route that answers at once (R50, R56) -/

/-- An ISSUED request put back to ROUTING, its data set anew (R41). -/
def InFlight.rerouted (data : InFlight → List Sector) (x : InFlight) : InFlight := { x.toRouting .issued with data := data x }

/-- A request whose new route answers it at once (R50, R56). -/
theorem State.route_answers {data : InFlight → List Sector} {status : Status} (up : s.channel.up = true)
    (owed : s.engine.owed = none) (request : s.entry? x.tag = some x) (issued : x.state = .issued)
    (answer : s.MissingAnswer .failed [] x status) :
    handle (.route x.tag false) (s.setEntry x.tag (InFlight.rerouted data)) = ([], s.withResponse x.tag (.plain status)) := by
  let t := s.setEntry x.tag (InFlight.rerouted data)
  have keeps (z : InFlight) : (z.rerouted data).tag = z.tag := InFlight.toRouting_tag .issued z
  have entry : t.entry? x.tag = some (x.rerouted data) := by
    rw [State.entry?_setEntry keeps, request, Option.map_some, if_pos rfl]
  have form : x.rerouted data = { x with state := .routing, forward := none, ctx := none, data := data x } := by
    simp only [InFlight.rerouted, InFlight.toRouting, issued, if_true]
  have answered (r : Response) : t.answer x.tag r = s.withResponse x.tag r := by
    have can : (t.entry? x.tag).any (·.answerable) = true := by rw [entry, form]; rfl
    have composed (e : InFlight) : ({ e.rerouted data with
        state := .answered, forward := none, ctx := none, data := [], response := some r } : InFlight) =
        { e with state := .answered, forward := none, ctx := none, data := [], response := some r } := by
      simp only [InFlight.rerouted, InFlight.toRouting]
      split <;> rfl
    rw [State.answer, if_pos can, State.setEntry_setEntry keeps composed]
    exact State.queueResponse_up (s := s.setEntry x.tag _) up _
  have decided : handle (.route x.tag false) t =
      match x.place with
      | some place => t.decideRoute (x.rerouted data) place false
      | none => ([], t) := by
    simp only [handle, State.route, show t.engine.owed = none from owed, Option.isSome_none, Bool.false_eq_true, if_false, entry]
    rw [form]
    cases x.place <;> rfl
  have unlocked (p : PortId) (place : Place) (apart : ∀ l ∈ s.slt.locks, l.ctx ∈ ([] : List CtxId) ∨
      l.overlaps (s.firstBlock place.stripe) (s.lastBlock place.stripe) = false) :
      t.lockHolds p x.op place.stripe = false := by
    have free : t.locked place.stripe = false := by
      rw [Bool.eq_false_iff, ne_eq, show t.locked place.stripe = s.locked place.stripe from rfl, State.locked_iff]
      rintro ⟨_, l, mem, _, blocks⟩
      exact absurd ((apart l mem).resolve_left (by simp)) (by simpa [Lock.overlaps] using blocks)
    unfold State.lockHolds
    rw [free, Bool.false_and]
  cases answer with
  | timeout alive => exact absurd rfl alive
  | absorbed place q _ place_ port apart route =>
    rw [decided, place_]
    have holds := unlocked q place apart
    rw [form]
    simp only [State.decideRoute, show t.portOf x.slot = some q from port, holds, Bool.false_eq_true, if_false,
      show t.routeOf x.slot q x.op place.stripe = .absorbed from route, answered]
  | lost place q _ place_ port apart route =>
    rw [decided, place_]
    have holds := unlocked q place apart
    rw [form]
    simp only [State.decideRoute, show t.portOf x.slot = some q from port, holds, Bool.false_eq_true, if_false,
      show t.routeOf x.slot q x.op place.stripe = .lost from route, answered]

/-- A request answered by its new route where its operation comes back with MISSING from a FAILED port (R53, R56). -/
theorem Brings.missing_answered {op : DriveOp} {status : Status} (orig : op.orig = .tag x.tag) (up : s.channel.up = true)
    (owed : s.engine.owed = none) (request : s.entry? x.tag = some x) (issued : x.state = .issued)
    (dead : (s.port p).health = .failed) (answer : s.MissingAnswer .failed [] x status) :
    Brings 2 [.deliver p op .missing] s (s.withResponse x.tag (.plain status)) := by
  have delivered : handle (.deliver p op .missing) s =
      ([.route x.tag false], s.setEntry x.tag (InFlight.rerouted fun _ => op.payload.data)) := by
    simp only [handle, State.deliver, orig, State.routerOutcome, request, issued, ne_eq, not_true, if_false, dead, if_true]
    rfl
  exact .cons delivered (.one (State.route_answers up owed request issued answer))

end Sys2Proof.Machine

open Sys2Proof Sys2Proof.Machine

/-- Settles O26: the report of the departure to the lock table, then the answer (R65, R66, R82). -/
theorem drainedLockGranted : Obligations.DrainedLockGranted := by
  refine ⟨fun s p id e x l data out orig request issued isWrite kind foreground mem waits first last alone => ?_,
    fun s c l quiet mem owner waits drained alone open_ => ?_⟩
  · intro gone result
    have drains : l.drains e.op.addr = true := by simp [Lock.drains, waits, first, last]
    have report := State.drainReport_alone (s := gone) mem drains (fun k hk h => alone k hk (.inl h))
    have notFault : decide (Outcome.good [] = .fault) = false := by decide
    have reported : gone.departed p e.op (.good []) (decide (Outcome.good [] = .fault)) =
        ((gone.drainReport e.op.addr).1 ++ [.deliver p e.op (.good [])], (gone.drainReport e.op.addr).2) := by
      rw [State.departed_eq, foreground, notFault]
      simp only [if_true, Bool.false_eq_true, if_false, List.append_nil]
    have normal : normalise p id e.op (.good data) = .good [] := normalise_good_other (by rw [kind]; simp) p id data
    have gone_deferred : (gone.port p).deferred = [] := by
      rw [State.port_setPort_self]
      exact out.deferred
    have gone_rests : gone.Rests := out.toRests.of_same out.timer out.commit rfl rfl rfl rfl
    refine ⟨fun more => ?_, fun last_ open_ => ?_⟩
    · let lowered : State := { gone with slt := { gone.slt with
        locks := gone.slt.locks.map (fun k => if k = l then { l with drain := l.drain - 1 } else k) } }
      have lowers : gone.drainReport e.op.addr = ([], lowered) := by
        have locks : gone.slt.locks.map (fun k => if k.ctx = l.ctx then { k with drain := k.drain - 1 } else k) =
            gone.slt.locks.map (fun k => if k = l then { l with drain := l.drain - 1 } else k) := by
          refine List.map_congr_left (fun k hk => ?_)
          by_cases same : k = l
          · rw [same, if_pos rfl, if_pos rfl]
          · rw [if_neg same, if_neg (fun owner => same (alone k hk (.inr owner)))]
        rw [report, if_neg (by omega), locks]
      rw [lowers] at reported
      have rests : lowered.Rests := gone_rests.of_same gone_rests.timer gone_rests.commit rfl rfl rfl rfl
      have answered := Brings.write_answered (t := lowered) (data := []) orig request issued isWrite out.up gone_deferred
      refine (exec_completion out.entry normal reported out.owed answered (by decide)
        ((rests.issue p).withResponse (by rw [State.issue_committing]; exact out.noCommit) _ _)).trans ?_
      rw [State.transmit_withResponse]
    · have gone_open : gone.maskOpen l.ctx := by
        refine ⟨open_.1, fun q hq => ?_⟩
        obtain ⟨online, room⟩ := open_.2 q hq
        rw [State.port_setPort]
        split
        · next same =>
          subst same
          refine ⟨online, ?_⟩
          have shorter := Port.length_without out.entry
          simp only [Port.hasRoom, Bool.and_eq_true, decide_eq_true_eq] at room ⊢
          exact ⟨room.1, by omega⟩
        · exact ⟨online, room⟩
      obtain ⟨g, grants, reads, engine⟩ := State.grant_reads (s := gone) mem rfl (fun k hk owner => alone k hk (.inr owner))
        gone_open
      rw [report, if_pos (by omega), grants] at reported
      obtain ⟨locks, ports, pacing, frame⟩ := gone.reading_frame l.ctx l.first
      have deferred : ((gone.reading l.ctx l.first).port p).deferred = [] :=
        (State.peerReads_deferred _ _ _ _ p).trans gone_deferred
      obtain ⟨found, up, noCommit⟩ : (gone.reading l.ctx l.first).entry? x.tag = some x ∧
          (gone.reading l.ctx l.first).channel.up = true ∧ (gone.reading l.ctx l.first).committing = false := by
        rw [frame]
        exact ⟨request, out.up, out.noCommit⟩
      have answered := Brings.write_answered (t := gone.reading l.ctx l.first) (data := []) orig found issued isWrite up deferred
      have starts : handle (.startReading l.ctx) g = ([], gone.reading l.ctx l.first) := reads
      refine (exec_completion out.entry normal reported (by rw [engine]; exact out.owed) (.step starts answered) (by decide)
        (((gone_rests.reading _ _).issue p).withResponse (by rw [State.issue_committing]; exact noCommit) _ _)).trans ?_
      rw [State.transmit_withResponse]
  · obtain ⟨g, grants, reads, engine⟩ := State.grant_reads mem owner alone open_
    have due : s.slt.locks.any (fun l => l.ctx == c && !l.granted && l.drain == 0) = true :=
      List.any_eq_true.2 ⟨l, mem, by simp [owner, waits, drained]⟩
    have rests := quiet.toRests.reading c l.first
    obtain ⟨locks, ports, pacing, frame⟩ := s.reading_frame c l.first
    have tx : (s.reading c l.first).txRests := by
      rw [frame]
      exact quiet.tx.of_same rfl rfl rfl
    have effects : Brings 1 [.startReading c] g (s.reading c l.first) := .one reads
    show execLockGranted c s = _
    rw [execLockGranted, if_pos due, grants]
    exact (effects.cascade (by rw [engine]; exact quiet.owed) (by decide) rests).trans (by rw [State.transmit_of_rests _ tx])

/-- Settles O24: the member fails before its WRITE's outcome is delivered, and the new route absorbs the WRITE (R26, R32,
R50). -/
theorem failingTimeoutAbsorbsWrite : Obligations.FailingTimeoutAbsorbsWrite := by
  intro s p id e x place i m carries list issue timer isWrite kind slot placed port online mark unfailed unlocked idle off
    autoFail threshold
  subst slot
  let s' := s.advanceTo i.deadline
  have later : s'.Carries p id e x := carries.advanced timer
  have role := State.role_of_portOf port
  let down : Port := { s.port p with list := [], health := .failed, errors := min ((s.port p).errors + 1) 15 }
  let failed := (s'.setPort p down).notify (.memberFailed p x.slot .errors)
  have emptied : (s.port p).without id = { s.port p with list := [] } := by
    have shorter := Port.length_without carries.entry
    have none_ : ((s.port p).without id).list = [] := by
      rw [list] at shorter
      exact List.length_eq_zero_iff.1 (by simpa using shorter)
    rw [← none_]
    rfl
  have failed_port : failed.port p = down := by rw [State.notify_port, State.port_setPort_self]
  have others (q : PortId) (other : q ≠ p) : failed.port q = s.port q := by
    rw [State.notify_port]
    exact s'.port_setPort_ne (Ne.symm other) _
  have failed_job : failed.job = s.job := State.notify_job _ _
  have failed_target : failed.target = s.target := by simp [failed, s', State.advanceTo]
  have failed_table : failed.table = s.table := by simp [failed, s', State.advanceTo]
  have failed_slt : failed.slt = s.slt := by simp [failed, s', State.advanceTo]
  have failed_engine : failed.engine = s.engine := by simp [failed, s', State.advanceTo]
  have failed_timer : failed.settleDue = false := State.settleDue_of_not_armed (by
    rw [failed_job]; rcases idle with h | h <;> rw [h] <;> simp)
  have counted : handle (.countError p) (s'.gone p id) =
      ([.sequencerFailure p, .emptyWaiting p, .emptyDeferred p], failed) := by
    have gone_port : (s'.gone p id).port p = { s.port p with list := [] } := by
      rw [State.gone, State.port_setPort_self]
      exact emptied
    have roles (q : PortId) : (((s'.gone p id).raised p).port q).role = (s.port q).role := by
      rw [State.raised, gone_port, State.port_setPort]
      split
      · next same => rw [← same]
      · next other => exact congrArg Port.role (s'.port_setPort_ne other _)
    have fails := State.failPort_of_member (s := (s'.gone p id).raised p) (p := p) (m := x.slot)
      ((State.portOf_congr roles _).trans port) (reason := .errors) (by simp)
    have due : (s'.gone p id).target.policy.autoFail = true ∧ ((s'.gone p id).port p).health = .online ∧
        (s'.gone p id).target.policy.failThreshold ≤ min (((s'.gone p id).port p).errors + 1) Config.errorBound := by
      rw [gone_port]
      exact ⟨autoFail, online, threshold⟩
    have failing : (s'.gone p id).countError p = ((s'.gone p id).raised p).failPort p .errors := if_pos due
    rw [show handle (.countError p) (s'.gone p id) = _ from failing, fails]
    simp only [State.raised, State.port_setPort_self, State.setPort_setPort, gone_port]
    rw [State.gone, State.setPort_setPort]
  have sequenced : handle (.sequencerFailure p) failed = ([], failed) :=
    State.sequencerFailure_quiet (by rw [failed_port]; exact mark)
      (.inl ⟨by rw [failed_job]; exact idle, by rw [failed_target]; exact off⟩) failed_timer
  have waiting : handle (.emptyWaiting p) failed = ([], failed) :=
    State.emptyWaiting_of_none (by rw [failed_port]; simp [down])
  have deferred : (failed.port p).deferred = [] := by rw [failed_port]; exact carries.deferred
  have request : failed.entry? x.tag = some x := by rw [State.entry?, failed_table]; exact carries.request
  have members : failed.failedMembers = [x.slot] := State.failedMembers_first (s := s) (p := p) unfailed
    (by rw [failed_port]) (by rw [failed_port]; exact role) others
  have roles (q : PortId) : (failed.port q).role = (s.port q).role := by
    by_cases same : q = p
    · rw [same, failed_port]
    · rw [others q same]
  have degraded : failed.arrayState = .degraded := by
    have unbound : failed.job.state.bound = false := by
      rw [failed_job]
      rcases idle with h | h <;> rw [h] <;> rfl
    simp only [State.arrayState, members, unbound, Bool.false_eq_true, if_false]
  have absorbed : failed.MissingAnswer .failed [] x .good := by
    have free := unlocked
    rw [Bool.eq_false_iff, ne_eq, State.locked_iff] at free
    refine .absorbed place p rfl placed ((State.portOf_congr roles _).trans port) (fun l mem => .inr ?_) ?_
    · rw [failed_slt] at mem
      have range : (failed.firstBlock place.stripe, failed.lastBlock place.stripe) =
          (s.firstBlock place.stripe, s.lastBlock place.stripe) := by
        simp only [State.firstBlock, State.lastBlock, State.stripBlocks, failed_target]
      obtain ⟨first, last⟩ := Prod.mk.inj range
      rw [first, last]
      exact Bool.eq_false_iff.2 (fun blocks => free ⟨l.ctx, l, mem, rfl, by simpa [Lock.overlaps] using blocks⟩)
    · rw [State.routeOf_degraded (by rw [failed_port]; simp [down]) degraded, isWrite]
      rfl
  have gone_rests : failed.Rests := later.toRests.of_same failed_timer
    (by rw [State.commitReady, failed_target, State.drained, failed_table]; exact later.commit) (by simp [failed])
    (by simp [failed]) (by simp [failed]) (by simp [failed])
  have after : handle (.afterDeparture p) (failed.withResponse x.tag (.plain .good)) =
      ([], failed.withResponse x.tag (.plain .good)) := by
    have unissued : (failed.withResponse x.tag (.plain .good)).issue p = failed.withResponse x.tag (.plain .good) := by
      have dead : ((failed.withResponse x.tag (.plain .good)).port p).health ≠ .online := by
        show (failed.port p).health ≠ _
        rw [failed_port]; simp [down]
      rw [State.issue_eq, Port.issuing, if_neg dead, State.setPort_self]
    have none_ : ((failed.withResponse x.tag (.plain .good)).port p).deferred = [] := deferred
    exact congrArg (Prod.mk []) ((State.afterDeparture_of_no_deferred none_).trans unissued)
  have noCommit : failed.committing = false := by rw [State.committing, failed_target]; exact carries.noCommit
  have effects : Brings 7 ([.countError p, .deliver p e.op .missing] ++ [.afterDeparture p]) (s'.gone p id)
      (failed.withResponse x.tag (.plain .good)) :=
    .cons counted (.step sequenced (.step waiting (.step (State.emptyDeferred_of_none deferred)
      ((Brings.missing_answered carries.orig gone_rests.up gone_rests.owed request carries.issued (by rw [failed_port])
        absorbed).append (.one after)))))
  have drains : ∀ l ∈ (s'.gone p id).slt.locks, l.drains e.op.addr = false := carries.drains
  rw [exec_expiry carries.entry issue (State.departed_of_no_drain drains p .missing true) carries.owed effects (by decide)
    (gone_rests.withResponse noCommit _ _), State.transmit_withResponse]

end

section
/-! SUPPORT. A link-down on a port with more entries than R18 lets a list hold (R29). -/
namespace Sys2Proof.Machine

variable {s : State} {p : PortId} {e : ListEntry}

/-- A list of orphans empties in two effects an entry: fewer effects do not bring it to rest (R29). -/
theorem run_emptyList_orphans (orphan : e.op.orig = .orphan) (quiet : e.op.fgWrite = false) {k : Nat} (rest : List Work) :
    ∀ {n : Nat} {s : State}, (s.port p).list = List.replicate k e → n ≤ 2 * k → run n (.emptyList p :: rest) s = none := by
  induction k with
  | zero =>
    intro n s _ few
    obtain rfl : n = 0 := by omega
    rfl
  | succ k ih =>
    intro n s list few
    let t := s.setPort p { s.port p with list := List.replicate k e }
    have leaves : handle (.emptyList p) s = ([.deliver p e.op .missing, .emptyList p], t) := by
      rw [List.replicate_succ] at list
      simp only [handle, State.emptyList, list, State.departed_eq, quiet, Bool.false_eq_true, if_false, List.nil_append]
      rfl
    have discards : handle (.deliver p e.op .missing) t = ([], t) := State.deliver_orphan orphan t p _
    match n with
    | 0 => rfl
    | 1 => rw [run, leaves]; rfl
    | n + 2 =>
      rw [run_step (by omega) leaves, List.cons_append, run_step (by omega) discards]
      exact ih (congrArg Port.list (State.port_setPort_self ..)) (by omega)

/-- An orphan READ outstanding at its drive. -/
def orphanEntry : ListEntry :=
  { op := { kind := .read, addr := 0, count := 1, orig := .orphan, fgWrite := false, payload := .none }
    issue := some { id := 0, deadline := 0 } }

/-- The bridge after its reset, port 0 with this many orphans in its list. -/
def State.orphaned (n : Nat) : State :=
  State.reset.setPort 0 { Port.afterReset false 0 with list := List.replicate n orphanEntry }

theorem State.orphaned_port (n : Nat) :
    (State.orphaned n).port 0 = { Port.afterReset false 0 with list := List.replicate n orphanEntry } :=
  State.port_setPort_self ..

theorem State.orphaned_quiet (n : Nat) : (State.orphaned n).Quiet where
  up := rfl
  link := rfl
  commit := rfl
  stall c := by
    show (State.reset.ctx c).stalled = false
    revert c
    decide
  timer := rfl
  owed := rfl
  tx _ := ⟨rfl, .inl rfl⟩

/-- The link-down of a port with so many orphans does not come to rest (R29). -/
theorem exec_linkDown_orphaned {n : Nat} (many : Config.cascadeBound ≤ 2 * n) :
    exec (.driveLinkDown 0) (State.orphaned n) = .fault .unsettled := by
  let down := (State.orphaned n).setPort 0 { (State.orphaned n).port 0 with link := false }
  have absent : ((State.orphaned n).port 0).health ≠ .online := by rw [State.orphaned_port]; simp [Port.afterReset]
  have begins : (State.orphaned n).linkDown 0 = ([.emptyList 0, .emptyDeferred 0], down) := by
    simp only [State.linkDown, if_neg absent, down]
  have list : (down.port 0).list = List.replicate n orphanEntry := by
    rw [State.port_setPort_self, State.orphaned_port]
  have unsettled := run_emptyList_orphans (p := 0) (e := orphanEntry) rfl rfl (.emptyDeferred 0 :: (down.owedWork ++ [.settle]))
    list many
  show execDriveLinkDown 0 _ = _
  simp only [execDriveLinkDown, begins, cascade, List.cons_append, List.nil_append, unsettled]

end Sys2Proof.Machine

open Sys2Proof Sys2Proof.Machine

/-- Refutes O20: its third part leaves the port's list unbounded, and 32768 orphans (R18 lets a list hold 72) take more
effects than the model gives a command before it answers that its effects do not come to rest. -/
theorem not_driveLinkDown : ¬ Obligations.DriveLinkDown := by
  intro h
  obtain ⟨n, many⟩ : ∃ n, Config.cascadeBound ≤ 2 * n := ⟨32768, Nat.le_refl _⟩
  have port := State.orphaned_port n
  have orphans (e : ListEntry) (mem : e ∈ ((State.orphaned n).port 0).list) : e = orphanEntry := by
    rw [port] at mem
    exact List.eq_of_mem_replicate mem
  have deferred : ((State.orphaned n).port 0).deferred = [] := by rw [port]; rfl
  have tags : ((State.orphaned n).port 0).list.filterMap (·.op.tag?) = [] :=
    List.filterMap_eq_nil_iff.2 (fun e mem => by rw [orphans e mem]; rfl)
  obtain ⟨-, -, left⟩ := h.2.2 (State.orphaned n) 0 (fun _ => .good) (State.orphaned_quiet _) rfl
    (by rw [port]; rfl) (by simp [State.orphaned, State.reset, Job.afterReset])
  have claim := left (by rw [port]; simp [Port.afterReset]) (by rw [tags]; exact .nil) (by rw [deferred]; exact .nil)
    (fun e mem writes => absurd writes (by rw [orphans e mem]; decide)) (fun e mem => .inl (by rw [orphans e mem]; rfl))
    (fun op mem => absurd mem (by rw [deferred]; exact List.not_mem_nil))
    (fun c d mem => absurd mem (by rw [deferred]; exact List.not_mem_nil))
  rw [exec_linkDown_orphaned many] at claim
  cases claim

end

section
/-! SUPPORT. The outcomes of a context's operations (R22, R83 to R89), contexts that end alone (R69, R85, R94), and the
outcome of a peer READ that is not the last. -/
namespace Sys2Proof.Machine

variable {s : State} {p : PortId} {id : Nat} {e : ListEntry} {c : CtxId}

/-! ## What the issue rule and the routing table read -/

theorem State.issue_setCtx (s : State) (c : CtxId) (x : Context) (p : PortId) :
    (s.setCtx c x).issue p = (s.issue p).setCtx c x := by
  rw [State.issue_eq, State.issue_eq]
  rfl

/-- The routing table reads the ports' health and role, the job and the target (R47). -/
theorem State.routeOf_congr {t : State} (health : ∀ p, (t.port p).health = (s.port p).health)
    (role : ∀ p, (t.port p).role = (s.port p).role) (job : t.job = s.job) (target : t.target = s.target) (m : Nat) (p : PortId)
    (op : ReqOp) (stripe : Nat) : t.routeOf m p op stripe = s.routeOf m p op stripe := by
  have array : t.arrayState = s.arrayState := by
    simp only [State.arrayState, State.failedMembers, Port.failedMember, Port.memberIndex, health, role, job]
  have masks (out : List Nat) : t.memberPortsExcept out = s.memberPortsExcept out := by
    simp only [State.memberPortsExcept, Port.memberIndex, role]
  unfold State.routeOf State.fracturedMask State.spareCurrent State.fillAllowed
  simp only [health, array, masks, job, target]

/-! ## Contexts of a bridge at rest -/

/-- A bridge at rest is so still with a context that has no operation stalled. -/
theorem State.Rests.setCtx (h : s.Rests) (c : CtxId) {x : Context} (runs : x.stalled = false) : (s.setCtx c x).Rests where
  up := h.up
  link := h.link
  commit := h.commit
  stall d := by
    rw [State.ctx_setCtx]
    split
    · exact runs
    · exact h.stall d
  timer := h.timer
  owed := h.owed

/-- Context c FREE without a lock (R69). -/
def State.freed (s : State) (c : CtxId) : State :=
  { s with
    engine := { s.engine with ctxs := s.engine.ctxs.set c (.blank (s.ctx c).serial) }
    slt := { s.slt with locks := s.slt.locks.filter (fun l => l.ctx ≠ c) } }

theorem State.heldBy_alone (held : ∀ h ∈ s.slt.held, h.lock ≠ c) : s.heldBy [c] = [] := by
  simpa [State.heldBy] using held

theorem State.blanked_alone (s : State) (c : CtxId) : s.blanked [c] = s.engine.ctxs.set c (.blank (s.ctx c).serial) := by
  apply Vector.ext
  intro i hi
  by_cases same : c = ⟨i, hi⟩
  · subst same
    simp [State.blanked]
  · have other : (c : Nat) ≠ i := fun e => same (Fin.ext e)
    simp [State.blanked, State.ctx, Vector.get, Ne.symm same, other]

theorem locks_alone (locks : List Lock) (c : CtxId) :
    locks.filter (fun l => !([c] : List CtxId).contains l.ctx) = locks.filter (fun l => l.ctx ≠ c) :=
  List.filter_congr (fun l _ => by simp)

/-- A context that no held request names goes FREE alone (R69). -/
theorem State.freeCtxs_alone (held : ∀ h ∈ s.slt.held, h.lock ≠ c) (owed : s.engine.owed = none) :
    s.freeCtxs [c] = s.freed c := by
  have keep : s.slt.held.filter (fun h => !([c] : List CtxId).contains h.lock) = s.slt.held :=
    List.filter_eq_self.2 (fun h mem => by simpa using held h mem)
  rw [State.freeCtxs_eq, State.heldBy_alone held, keep, locks_alone, State.blanked_alone, owed]
  simp [State.freed, owed]

theorem State.Rests.freed (h : s.Rests) (c : CtxId) : (s.freed c).Rests where
  up := h.up
  link := h.link
  commit := h.commit
  stall d := by
    show (State.ctx (s.setCtx c (.blank (s.ctx c).serial)) d).stalled = false
    rw [State.ctx_setCtx]
    split
    · rfl
    · exact h.stall d
  timer := h.timer
  owed := h.owed

/-! ## The outcome of a context's operation (R22) -/

/-- The operation has left its port's list, and the port's count is raised (R24, R25). -/
def State.faulted (s : State) (p : PortId) (id : Nat) : State :=
  s.setPort p { (s.port p).without id with errors := min ((s.port p).errors + 1) 15 }

/-- The states that differ by the port an operation has left, with its count (R20, R22). -/
theorem State.gone_port (s : State) (p : PortId) (id : Nat) : (s.gone p id).port p = (s.port p).without id :=
  s.port_setPort_self p _

theorem State.faulted_port (s : State) (p : PortId) (id : Nat) :
    (s.faulted p id).port p = { (s.port p).without id with errors := min ((s.port p).errors + 1) 15 } := s.port_setPort_self p _

theorem State.gone_raised (s : State) (p : PortId) (id : Nat) : (s.gone p id).raised p = s.faulted p id := by
  rw [State.raised, State.gone_port, State.gone, State.setPort_setPort]
  rfl

theorem State.ReadsFor.advanced (h : s.ReadsFor p id e c) {due : Nat} (timer : (s.advanceTo due).settleDue = false) :
    (s.advanceTo due).ReadsFor p id e c :=
  { toOutstanding := h.toOutstanding.advanced timer, orig := h.orig, notForeground := h.notForeground }

theorem State.ReadsFor.departed (h : s.ReadsFor p id e c) (t : State) (out : Outcome) (raise : Bool) :
    t.departed p e.op out raise = ((if raise then [.countError p] else []) ++ [.deliver p e.op out], t) := by
  rw [State.departed_eq, h.notForeground]
  rfl

theorem State.ReadsFor.deliver (h : s.ReadsFor p id e c) (t : State) (out : Outcome) :
    handle (.deliver p e.op out) t = t.ctxOutcome c (s.ctx c).serial p out := by
  show t.deliver p e.op out = _
  rw [State.deliver, h.orig]

/-- A completion that is no FAULT reaches its context, and the port goes on (R22). -/
theorem State.ReadsFor.exec_outcome (h : s.ReadsFor p id e c) {report : Report} {out : Outcome}
    (hn : normalise p id e.op report = out) (notFault : out ≠ .fault) {more : List Work} {t u : State} {k : Nat}
    (outcome : (s.gone p id).ctxOutcome c (s.ctx c).serial p out = (more, t))
    (effects : Brings k (more ++ [.afterDeparture p]) t u) (hk : k + 1 < Config.cascadeBound) (rests : u.Rests) :
    exec (.driveCompletion p id report) s = .next u.transmit := by
  have departs := h.departed (s.gone p id) out (decide (out = .fault))
  rw [decide_eq_false notFault] at departs
  have delivered : handle (.deliver p e.op out) (s.gone p id) = (more, t) := by rw [h.deliver, outcome]
  exact exec_completion h.entry hn (work := [.deliver p e.op out]) (t := s.gone p id) (by rw [decide_eq_false notFault]; exact departs) h.owed
    (.cons delivered effects) hk rests

/-- What a FAULT or an expiry brings that does not fail the port: the raise, the outcome, and the port's further course (R24,
R25). -/
theorem State.ReadsFor.brings_missing (h : s.ReadsFor p id e c) (safe : s.target.policy.autoFail = false ∨
    min ((s.port p).errors + 1) 15 < s.target.policy.failThreshold ∨ (s.port p).health ≠ .online) {out : Outcome}
    {more : List Work} {t u : State} {k : Nat} (outcome : (s.faulted p id).ctxOutcome c (s.ctx c).serial p out = (more, t))
    (effects : Brings k (more ++ [.afterDeparture p]) t u) :
    Brings (k + 2) ([.countError p, .deliver p e.op out] ++ [.afterDeparture p]) (s.gone p id) u := by
  have counted : handle (.countError p) (s.gone p id) = ([], s.faulted p id) := by
    rw [← State.gone_raised]
    exact State.countError_stays (by rw [State.gone_port]; exact safe)
  refine .step counted (.cons ?_ effects)
  rw [h.deliver, outcome]

theorem State.ReadsFor.exec_fault (h : s.ReadsFor p id e c) {u : State} {k : Nat} (effects :
    Brings k ([.countError p, .deliver p e.op .fault] ++ [.afterDeparture p]) (s.gone p id) u) (hk : k < Config.cascadeBound)
    (rests : u.Rests) : exec (.driveCompletion p id .fault) s = .next u.transmit :=
  exec_completion h.entry rfl (h.departed _ _ _) h.owed effects hk rests

theorem State.ReadsFor.exec_expiry (h : s.ReadsFor p id e c) {i : Issue} (issue : e.issue = some i) {u : State} {k : Nat}
    (effects : Brings k ([.countError p, .deliver p e.op .missing] ++ [.afterDeparture p]) ((s.advanceTo i.deadline).gone p id)
      u) (hk : k < Config.cascadeBound) (rests : u.Rests) : exec (.driveTimeout p id) s = .next u.transmit :=
  Machine.exec_expiry h.entry issue (h.departed _ _ _) h.owed effects hk rests

/-- A context changed alone by the outcome that reached it, its port going on (R20, R22). -/
theorem Brings.left_setCtx {t : State} {n : Nat} (base : t = s.setPort p { (s.port p).without id with errors := n })
    (deferred : (s.port p).deferred = []) (x : Context) :
    Brings 1 [.afterDeparture p] (t.setCtx c x) ((s.left p id n).setCtx c x) := by
  have issued : (t.setCtx c x).issue p = (s.left p id n).setCtx c x := by rw [State.issue_setCtx, base, State.left]
  rw [← issued]
  refine .departed ?_
  show (t.port p).deferred = []
  rw [base, State.port_setPort_self]
  exact deferred

theorem State.gone_eq (s : State) (p : PortId) (id : Nat) :
    s.gone p id = s.setPort p { (s.port p).without id with errors := (s.port p).errors } := rfl

/-! ## A peer READ that is not the last (R83, R84, R85) -/

theorem State.portFinal_more (more : (s.ctx c).outstanding.erase p ≠ []) (lanes : List Lane) (source : Bool) :
    s.portFinal c p lanes source = ([], s.setCtx c { s.ctx c with
      lanes, outstanding := (s.ctx c).outstanding.erase p
      sources := if source then (s.ctx c).sources ++ [p] else (s.ctx c).sources }) := by
  simp only [State.portFinal, if_neg more]

/-- What a context in READING makes of an outcome of its present taking (R83). -/
theorem State.ctxOutcome_reading (reading : (s.ctx c).state = .reading) (p : PortId) (out : Outcome) :
    s.ctxOutcome c (s.ctx c).serial p out = s.readOutcome c p out := by
  simp only [State.ctxOutcome, ne_eq, not_true, if_false, reading]

/-- A MISSING input, where the READ is not offered again and the context runs on (R84, R85). -/
theorem State.readMissing_input (alive : (s.port p).health = .online) (final : (s.ctx c).kind ≠ .sweep ∨
    s.target.policy.retryLimit ≤ (s.ctx c).retries.get p) : s.readMissing c p = s.missingInput c p := by
  have living : (s.port p).health ≠ .failed := by rw [alive]; simp
  by_cases sweep : (s.ctx c).kind = .sweep
  · have limit : ¬ ((s.port p).health = .online ∧ (s.ctx c).retries.get p < s.target.policy.retryLimit) := by
      rintro ⟨-, fewer⟩
      rcases final with other | reached
      · exact other sweep
      · omega
    simp only [State.readMissing, if_pos sweep, if_neg limit]
  · simp only [State.readMissing, if_neg sweep, if_neg living]

/-- A READ offered again (R84). -/
theorem State.readMissing_again (alive : (s.port p).health = .online) (room : (s.port p).hasRoom = true)
    (sweep : (s.ctx c).kind = .sweep) (fewer : (s.ctx c).retries.get p < s.target.policy.retryLimit) :
    s.readMissing c p = ([], (s.setCtx c { s.ctx c with
      retries := (s.ctx c).retries.set p ((s.ctx c).retries.get p + 1)
      flags := { (s.ctx c).flags with retried := true } }).enlist p (s.readOp c)) := by
  let t := s.setCtx c { s.ctx c with
    retries := (s.ctx c).retries.set p ((s.ctx c).retries.get p + 1), flags := { (s.ctx c).flags with retried := true } }
  have op : t.readOp c = s.readOp c := by
    unfold State.readOp State.ctxBase
    rw [show t.ctx c = _ from s.ctx_setCtx_self c _]
    rfl
  have uncounted : (t.enlist p (s.readOp c)).countContext c = t.enlist p (s.readOp c) := by
    have kind : ((t.enlist p (s.readOp c)).ctx c).kind = .sweep := by
      rw [State.enlist_eq]
      show (t.ctx c).kind = .sweep
      rw [State.ctx_setCtx_self]
      exact sweep
    rw [State.countContext, if_pos kind]
  have offered : t.offerContext c p (t.readOp c) = (.admitted, t.enlist p (s.readOp c)) := by
    have online : (t.port p).health = .online := alive
    have fits : (t.port p).hasRoom = true := room
    rw [State.offerContext, if_neg (by simpa using online), if_pos fits, op, uncounted]
  simp only [State.readMissing, if_pos sweep, if_pos (And.intro alive fewer)]
  exact congrArg (Prod.mk []) (congrArg Prod.snd offered)

/-- The READ of a context that is early at its end: the effects its request's new route brings (R85). -/
theorem State.endEarly_eq {tag : Nat} (origin : (s.ctx c).origin = .tag tag) (held : ∀ h ∈ s.slt.held, h.lock ≠ c)
    (owed : s.engine.owed = none) : s.endEarly c =
      ([.route tag false, .arbiter, .examine], (s.endedEarly c).setEntry tag (InFlight.rerouted (·.data))) := by
  have request : (s.ctx c).request = some tag := by simp only [Context.request, origin]
  have same : InFlight.toRouting .issued = InFlight.rerouted (·.data) := by
    funext x
    unfold InFlight.rerouted InFlight.toRouting
    split <;> rfl
  have freed := State.freeCtxs_alone (s := (s.mapPorts (·.orphanCtxs [c])).setEntry tag (InFlight.toRouting .issued)) held owed
  rw [same] at freed
  simp only [State.endEarly, request, Option.toList_some, List.foldl_cons, List.foldl_nil, State.heldBy_alone held, same]
  exact congrArg (Prod.mk _) freed

/-- The count of a port that stays ONLINE (R26). -/
def State.survives (s : State) (p : PortId) : Prop := (s.port p).health = .online ∧
  (s.target.policy.autoFail = false ∨ min ((s.port p).errors + 1) 15 < s.target.policy.failThreshold)

/-- The outcome of a READ that got nothing, for a context in READING on a port that runs on (R84, R85). -/
theorem State.ReadsFor.outcome_missing (reading : (s.ctx c).state = .reading) {out : Outcome}
    (lost : out = .fault ∨ out = .missing) :
    (s.faulted p id).ctxOutcome c (s.ctx c).serial p out = (s.faulted p id).readMissing c p := by
  refine (State.ctxOutcome_reading (s := s.faulted p id) reading p out).trans ?_
  rcases lost with rfl | rfl <;> rfl

/-- A READ that got nothing and is not offered again gives a MISSING input (R84, R85). -/
theorem State.ReadsFor.input_missing (h : s.ReadsFor p id e c) (reading : (s.ctx c).state = .reading)
    (more : (s.ctx c).outstanding.erase p ≠ []) (survives : s.survives p)
    (final : (s.ctx c).kind ≠ .sweep ∨ s.target.policy.retryLimit ≤ (s.ctx c).retries.get p) {out : Outcome}
    (lost : out = .fault ∨ out = .missing) :
    Brings 3 ([.countError p, .deliver p e.op out] ++ [.afterDeparture p]) (s.gone p id)
      ((s.left p id (min ((s.port p).errors + 1) 15)).setCtx c { s.ctx c with
        lanes := (s.ctx c).lanes.map (fun l => { l with missing := true })
        outstanding := (s.ctx c).outstanding.erase p, sources := (s.ctx c).sources ++ [p] }) := by
  obtain ⟨online, safe⟩ := survives
  have input := State.readMissing_input (s := s.faulted p id) (c := c) (p := p) (by rw [State.faulted_port]; exact online) final
  exact h.brings_missing (safe.imp_right .inl) ((State.ReadsFor.outcome_missing reading lost).trans (input.trans
    (State.portFinal_more (s := s.faulted p id) more _ true))) (.left_setCtx rfl h.deferred _)

/-- A READ of a SWEEP that got nothing is offered again while its port has retries left (R84). -/
theorem State.ReadsFor.read_again (h : s.ReadsFor p id e c) (reading : (s.ctx c).state = .reading)
    (survives : s.survives p) (sweep : (s.ctx c).kind = .sweep)
    (fewer : (s.ctx c).retries.get p < s.target.policy.retryLimit) (room : (s.port p).hasRoom = true) {out : Outcome}
    (lost : out = .fault ∨ out = .missing) :
    Brings 3 ([.countError p, .deliver p e.op out] ++ [.afterDeparture p]) (s.gone p id)
      ((((s.faulted p id).setCtx c { s.ctx c with
        retries := (s.ctx c).retries.set p ((s.ctx c).retries.get p + 1)
        flags := { (s.ctx c).flags with retried := true } }).enlist p (s.readOp c)).issue p) := by
  obtain ⟨online, safe⟩ := survives
  have fits : ((s.faulted p id).port p).hasRoom = true := by
    rw [State.faulted_port]
    have shorter := Port.length_without h.entry
    simp only [Port.hasRoom, Bool.and_eq_true, decide_eq_true_eq] at room ⊢
    exact ⟨room.1, by omega⟩
  have offered := State.readMissing_again (s := s.faulted p id) (c := c) (p := p) (by rw [State.faulted_port]; exact online)
    fits sweep fewer
  refine h.brings_missing (safe.imp_right .inl) ((State.ReadsFor.outcome_missing reading lost).trans offered) (.departed ?_)
  rw [State.enlist_deferred]
  show ((s.faulted p id).port p).deferred = []
  rw [State.faulted_port]
  exact h.deferred

end Sys2Proof.Machine

open Sys2Proof Sys2Proof.Machine

/-- Settles O28: what each outcome makes of its context, and the port's further course (R83, R84, R85). -/
theorem peerReadTaken : Obligations.PeerReadTaken := by
  intro s p id e c reads tx isRead reading more x n again missing
  have stalls : x.stalled = false := reads.stall c
  have gone_reading (out : Outcome) : (s.gone p id).ctxOutcome c (s.ctx c).serial p out = (s.gone p id).readOutcome c p out :=
    State.ctxOutcome_reading (s := s.gone p id) reading p out
  have settled {u : State} (reads : u.ReadsFor p id e c) (tx : u.txRests) (n : Nat) {y : Context} (runs : y.stalled = false) :
      ((u.left p id n).setCtx c y).Rests ∧ ((u.left p id n).setCtx c y).transmit = (u.left p id n).setCtx c y := by
    obtain ⟨rests, -⟩ := reads.toRests.left reads.noCommit p id n
    refine ⟨rests.setCtx c runs, State.transmit_of_rests _ (State.txRests.of_same (s := u) tx ?_ ?_ ?_)⟩
    all_goals simp [State.left, State.setCtx]
  have final (lanes : List Lane) (source : Bool) := State.portFinal_more (s := s.gone p id) more lanes source
  refine ⟨fun data length => ?_, fun data masks sectors blocks named => ?_, fun online safe => ?_,
    fun r place q failed kind origin request isRead issued placed port lost apart nobody idle => ?_⟩
  · obtain ⟨rests, still⟩ := settled reads tx (s.port p).errors
      (y := { x with lanes := lanesGood x.lanes data, outstanding := x.outstanding.erase p }) stalls
    exact (reads.exec_outcome (normalise_good_read isRead length p id) (by simp)
      ((gone_reading _).trans (final (lanesGood x.lanes data) false)) (.left_setCtx rfl reads.deferred _) (by decide)
      rests).trans (congrArg _ still)
  · obtain ⟨rests, still⟩ := settled reads tx (s.port p).errors (y := { x with
      lanes := lanesUnreadable x.lanes data masks, outstanding := x.outstanding.erase p, sources := x.sources ++ [p] }) stalls
    exact (reads.exec_outcome (normalise_unreadable isRead blocks sectors named p id) (by simp)
      ((gone_reading _).trans (final (lanesUnreadable x.lanes data masks) true)) (.left_setCtx rfl reads.deferred _)
      (by decide) rests).trans (congrArg _ still)
  · have survives : s.survives p := ⟨online, safe⟩
    have again_settled {u : State} (reads : u.ReadsFor p id e c) (tx : u.txRests) {y : Context} (runs : y.stalled = false)
        (op : DriveOp) : ((((u.faulted p id).setCtx c y).enlist p op).issue p).Rests ∧
          ((((u.faulted p id).setCtx c y).enlist p op).issue p).transmit =
            (((u.faulted p id).setCtx c y).enlist p op).issue p := by
      have gone : (u.faulted p id).Rests := reads.toRests.of_same reads.timer reads.commit rfl rfl rfl rfl
      refine ⟨((gone.setCtx c runs).enlist p op).issue p,
        State.transmit_of_rests _ (State.txRests.of_same (s := u) tx ?_ ?_ ?_)⟩
      all_goals rw [State.issue_eq, State.enlist_eq]; rfl
    refine ⟨⟨fun final => ?_, fun sweep fewer room => ?_⟩, fun i issue timer tx => ⟨fun final => ?_, fun sweep fewer room => ?_⟩⟩
    · obtain ⟨rests, still⟩ := settled reads tx n (y := { x with
        lanes := x.lanes.map (fun l => { l with missing := true }), outstanding := x.outstanding.erase p
        sources := x.sources ++ [p] }) stalls
      exact (reads.exec_fault (reads.input_missing reading more survives final (.inl rfl)) (by decide) rests).trans
        (congrArg _ still)
    · obtain ⟨rests, still⟩ := again_settled reads tx (y := { x with
        retries := x.retries.set p (x.retries.get p + 1), flags := { x.flags with retried := true } }) stalls again
      exact (reads.exec_fault (reads.read_again reading survives sweep fewer room (.inl rfl)) (by decide) rests).trans
        (congrArg _ still)
    · have later := reads.advanced timer
      obtain ⟨rests, still⟩ := settled later tx n (y := { x with
        lanes := x.lanes.map (fun l => { l with missing := true }), outstanding := x.outstanding.erase p
        sources := x.sources ++ [p] }) stalls
      exact (reads.exec_expiry issue (later.input_missing reading more survives final (.inr rfl)) (by decide) rests).trans
        (congrArg _ still)
    · have later := reads.advanced timer
      obtain ⟨rests, still⟩ := again_settled later tx (y := { x with
        retries := x.retries.set p (x.retries.get p + 1), flags := { x.flags with retried := true } }) stalls again
      exact (reads.exec_expiry issue (later.read_again reading survives sweep fewer room (.inr rfl)) (by decide) rests).trans
        (congrArg _ still)
  · intro gone
    let ended := (s.faulted p id).endedEarly c
    have faulted : (s.faulted p id).Rests := reads.toRests.of_same reads.timer reads.commit rfl rfl rfl rfl
    have port_eq (k : PortId) : ended.port k = ((s.faulted p id).port k).orphanCtxs [c] := State.port_mapPorts ..
    have port_frame (k : PortId) : (ended.port k).health = (s.port k).health ∧ (ended.port k).role = (s.port k).role := by
      rw [port_eq, State.faulted, State.port_setPort]
      split
      · next same => rw [← same]; exact ⟨rfl, rfl⟩
      · exact ⟨rfl, rfl⟩
    have here : ended.port p = { (s.port p).without id with errors := n }.orphanCtxs [c] := by rw [port_eq, State.faulted_port]
    have early : (s.faulted p id).ctxOutcome c (s.ctx c).serial p .fault =
        ([.route r.tag false, .arbiter, .examine], ended.setEntry r.tag (InFlight.rerouted (·.data))) := by
      have dead : ((s.faulted p id).port p).health = .failed := by rw [State.faulted_port]; exact failed
      rw [State.ReadsFor.outcome_missing reading (.inl rfl), State.readMissing]
      rw [if_neg (show ¬ ((s.faulted p id).ctx c).kind = .sweep from kind), if_pos dead]
      exact State.endEarly_eq (s := s.faulted p id) origin nobody.1 reads.owed
    have rerouted : ended.MissingAnswer .failed [] r .dataLost := by
      refine .lost place q rfl placed ((State.portOf_congr (fun k => (port_frame k).2) _).trans port) (fun l mem => .inr ?_) ?_
      · obtain ⟨mem, other⟩ := List.mem_filter.1 mem
        exact (apart l mem).resolve_left (by simpa using other)
      · rw [isRead]
        exact (State.routeOf_congr (s := s) (fun k => (port_frame k).1) (fun k => (port_frame k).2) rfl rfl _ _ _ _).trans lost
    let answered := ended.withResponse r.tag (.plain .dataLost)
    have routed : handle (.route r.tag false) (ended.setEntry r.tag (InFlight.rerouted (·.data))) = ([], answered) :=
      State.route_answers reads.up reads.owed request issued rerouted
    have after : Brings 1 [.afterDeparture p] answered answered := by
      have dead : (answered.port p).health ≠ .online := by
        show (ended.port p).health ≠ _
        rw [(port_frame p).1, failed]
        simp
      have unissued : answered.issue p = answered := by rw [State.issue_eq, Port.issuing, if_neg dead, State.setPort_self]
      have none_ : (answered.port p).deferred = [] := by
        show (ended.port p).deferred = []
        rw [here]
        show List.filter _ (s.port p).deferred = []
        rw [reads.deferred]
        rfl
      have departed := Brings.departed none_
      rwa [unissued] at departed
    have quiet : Brings 2 [.arbiter, .examine] answered answered :=
      .afterFree nobody.2 (State.noLaunch_of_not_active idle)
    have effects : Brings 6 ([.countError p, .deliver p e.op .fault] ++ [.afterDeparture p]) (s.gone p id) answered :=
      reads.brings_missing (.inr (.inr (by rw [failed]; simp))) early (.step routed (quiet.append after))
    have rests : answered.Rests := by
      have ended_rests : ended.Rests := by
        have mapped : ((s.faulted p id).mapPorts (·.orphanCtxs [c])).Rests :=
          faulted.of_same reads.timer reads.commit rfl rfl rfl rfl
        exact mapped.freed c
      exact ended_rests.withResponse reads.noCommit _ _
    rw [reads.exec_fault effects (by decide) rests, State.transmit_withResponse]
    rfl

end

section
/-! SUPPORT. The last READ of a SWEEP context and the operations on its spare (R86 to R89). -/
namespace Sys2Proof.Machine

variable {s : State} {p q : PortId} {id : Nat} {e : ListEntry} {c : CtxId}

/-! ## Contexts written in turn -/

theorem State.setCtx_ctx (s : State) (c : CtxId) : s.setCtx c (s.ctx c) = s := by
  have same : s.engine.ctxs.set c (s.ctx c) = s.engine.ctxs := Vector.set_getElem_self c.isLt
  rw [State.setCtx, same]

theorem State.countContext_engine (s : State) (c : CtxId) : (s.countContext c).engine = s.engine := by
  unfold State.countContext
  split <;> rfl

/-! ## The last READ (R83, R86) -/

theorem State.portFinal_last (last : (s.ctx c).outstanding = [p]) (lanes : List Lane) (source : Bool) :
    s.portFinal c p lanes source = ([.lanesFinal c], s.setCtx c { s.ctx c with
      lanes, outstanding := [], sources := if source then (s.ctx c).sources ++ [p] else (s.ctx c).sources }) := by
  have none_ : (s.ctx c).outstanding.erase p = [] := by rw [last]; simp
  simp only [State.portFinal, none_, if_true]

/-- The GOOD completion of a context's last READ forms its lanes (R83, R86). -/
theorem State.ReadsFor.outcome_last (reading : (s.ctx c).state = .reading) (last : (s.ctx c).outstanding = [p])
    (data : List Sector) : (s.gone p id).ctxOutcome c (s.ctx c).serial p (.good data) =
      ([.lanesFinal c], (s.gone p id).setCtx c { s.ctx c with
        lanes := lanesGood (s.ctx c).lanes data, outstanding := [] }) :=
  (State.ctxOutcome_reading (s := s.gone p id) reading p _).trans (State.portFinal_last (s := s.gone p id) last _ false)

/-- A context whose lanes are formed (R86). -/
def State.formed (s : State) (c : CtxId) : State :=
  s.setCtx c { s.ctx c with
    classes := (s.ctx c).lanes.map Lane.class, flags := (s.ctx c).flags.or (laneCauses (s.ctx c).lanes) }

theorem State.lanesFinal_sweep (sweep : (s.ctx c).kind = .sweep) : s.lanesFinal c = ([.offerSpare c], s.setCtx c { s.ctx c with
    classes := (s.ctx c).lanes.map Lane.class, flags := (s.ctx c).flags.or (laneCauses (s.ctx c).lanes)
    state := .writing }) := by
  simp only [State.lanesFinal, sweep, State.setCtx_setCtx, State.ctx_setCtx_self]

/-! ## The spare operation (R87, R88) -/

/-- A port with room for one more has it still once an operation has left a port, its count at any value (R18). -/
theorem State.hasRoom_left (entry : (s.port p).outstanding? id = some e) (room : (s.port q).hasRoom = true) (n : Nat) :
    ((s.setPort p { (s.port p).without id with errors := n }).port q).hasRoom = true := by
  rw [State.port_setPort]
  split
  · next same =>
    subst same
    have shorter := Port.length_without entry
    simp only [Port.hasRoom, Bool.and_eq_true, decide_eq_true_eq] at room ⊢
    exact ⟨room.1, by omega⟩
  · exact room

theorem State.health_left (s : State) (p q : PortId) (id n : Nat) :
    ((s.setPort p { (s.port p).without id with errors := n }).port q).health = (s.port q).health := by
  rw [State.port_setPort]
  split
  · next same => rw [← same]; rfl
  · rfl

theorem State.role_left (s : State) (p q : PortId) (id n : Nat) :
    ((s.setPort p { (s.port p).without id with errors := n }).port q).role = (s.port q).role := by
  rw [State.port_setPort]
  split
  · next same => rw [← same]; rfl
  · rfl

/-- A spare operation offered to a port that is ONLINE with room (R87, R88). -/
theorem State.offerSpare_admitted (runs : (s.ctx c).stalled = false) (target : (s.ctx c).target = some q)
    (online : (s.port q).health = .online) (room : (s.port q).hasRoom = true) :
    s.offerSpare c = ([], (s.enlist q (s.spareOp c)).countContext c) := by
  have offered : s.offerContext c q (s.spareOp c) = (.admitted, (s.enlist q (s.spareOp c)).countContext c) := by
    rw [State.offerContext, if_neg (by simpa using online), if_pos room]
  have ctx : ((s.enlist q (s.spareOp c)).countContext c).ctx c = s.ctx c :=
    State.ctx_congr (by rw [State.countContext_engine, State.enlist_eq]; rfl) c
  have clear : { s.ctx c with stalled := false } = ((s.enlist q (s.spareOp c)).countContext c).ctx c := by
    rw [ctx, ← runs]
  simp only [State.offerSpare, target, offered]
  rw [if_neg (by simp), ctx, clear, State.setCtx_ctx]

/-- The spare operations of SWEEP contexts are not counted toward the foreground (R57, R87). -/
theorem State.countContext_sweep {t : State} (sweep : (t.ctx c).kind = .sweep) (op : DriveOp) :
    (t.enlist q op).countContext c = t.enlist q op := by
  have kind : ((t.enlist q op).ctx c).kind = .sweep := by
    rw [State.enlist_eq]
    exact sweep
  rw [State.countContext, if_pos kind]

/-- The spare operation of a context whose lock's range is known (R62, R87, R88). -/
theorem State.ctxBase_of_lock {l : Lock} (lock : s.slt.locks.find? (fun k => k.ctx == c) = some l) : s.ctxBase c = l.first := by
  simp only [State.ctxBase, lock]

/-- A SWEEP context that offers its spare operation, its port's event coming to its end (R20, R87, R88). -/
theorem Brings.spare_offered {t : State} {x : Context} {n : Nat} (entry : (s.port p).outstanding? id = some e)
    (deferred : (s.port p).deferred = []) (base : t = s.setPort p { (s.port p).without id with errors := n })
    (sweep : x.kind = .sweep) (runs : x.stalled = false) (target : x.target = some q)
    (online : (s.port q).health = .online) (room : (s.port q).hasRoom = true) :
    Brings 2 [.offerSpare c, .afterDeparture p] (t.setCtx c x)
      (((t.setCtx c x).enlist q ((t.setCtx c x).spareOp c)).issue p) := by
  have ctx : (t.setCtx c x).ctx c = x := State.ctx_setCtx_self ..
  have offered : handle (.offerSpare c) (t.setCtx c x) = ([], (t.setCtx c x).enlist q ((t.setCtx c x).spareOp c)) := by
    have online_ : ((t.setCtx c x).port q).health = .online := by
      show (t.port q).health = _
      rw [base, State.health_left]
      exact online
    have room_ : ((t.setCtx c x).port q).hasRoom = true := by
      show (t.port q).hasRoom = _
      rw [base]
      exact State.hasRoom_left entry room n
    have admitted := State.offerSpare_admitted (by rw [ctx]; exact runs) (by rw [ctx]; exact target) online_ room_
    rwa [State.countContext_sweep (by rw [ctx]; exact sweep)] at admitted
  refine .step offered (.departed ?_)
  rw [State.enlist_deferred]
  show (t.port p).deferred = []
  rw [base, State.port_setPort_self]
  exact deferred

/-- Such a bridge rests. -/
theorem State.Rests.spare_offered {t : State} {x : Context} {n : Nat} (h : s.Rests)
    (base : t = s.setPort p { (s.port p).without id with errors := n }) (runs : x.stalled = false) (op : DriveOp) :
    (((t.setCtx c x).enlist q op).issue p).Rests := by
  have gone : t.Rests := by
    rw [base]
    exact h.of_same h.timer h.commit rfl rfl rfl rfl
  exact ((gone.setCtx c runs).enlist q op).issue p

theorem State.txRests.spare_offered {t : State} {x : Context} {n : Nat} (h : s.txRests)
    (base : t = s.setPort p { (s.port p).without id with errors := n }) (op : DriveOp) :
    (((t.setCtx c x).enlist q op).issue p).txRests := by
  rw [base, State.issue_eq, State.enlist_eq]
  exact h.of_same rfl rfl rfl

theorem Lane.output_eq (l : Lane) : l.output = if l.missing || l.unreadable then 0 else l.acc := by
  cases h : l.missing <;> cases h' : l.unreadable <;> simp [Lane.output, Lane.class, LaneClass.lost, h, h']

/-- The pairs of a strip's lost blocks, read off its lane classes (R88). -/
theorem mem_lostItems_iff {classes : List LaneClass} {count b : Nat} {mask : Byte} :
    (b, mask) ∈ lostItems classes count ↔ b < count ∧ mask ≠ 0 ∧ ∀ k, k < 8 →
      (mask.getLsbD k = true ↔ ∃ cl, classes[8 * b + k]? = some cl ∧ cl ≠ .good) := by
  rw [mem_lostItems]
  refine and_congr_right fun _ => and_congr_right fun _ => ⟨?_, fun bits => ?_⟩
  · rintro rfl k inside
    exact getLsbD_lostMask classes b inside
  · apply BitVec.eq_of_getLsbD_eq
    intro k inside
    rw [Bool.eq_iff_iff, bits k inside, getLsbD_lostMask classes b inside]

end Sys2Proof.Machine

open Sys2Proof Sys2Proof.Machine

/-- Settles O31: the context's next state, and the operation that it offers to its spare (R86 to R89). -/
theorem lostLanesMarked : Obligations.LostLanesMarked := by
  intro s p id e c l q data reads tx sweep target lock online room x gone
  have stalls : x.stalled = false := reads.stall c
  have gone_eq : gone = s.setPort p { (s.port p).without id with errors := (s.port p).errors } := rfl
  refine ⟨fun isRead length reading last => ?_, fun isWrite writing lost => ?_, fun working op same safe => ?_⟩
  · intro lanes write
    let y : Context := { x with state := .writing, outstanding := [], lanes := lanes, classes := lanes.map Lane.class
                                flags := x.flags.or (laneCauses lanes) }
    have outcome := State.ReadsFor.outcome_last (id := id) reading last data
    have formed : handle (.lanesFinal c) (gone.setCtx c { x with lanes, outstanding := [] }) =
        ([.offerSpare c], gone.setCtx c y) := by
      have ctx := gone.ctx_setCtx_self c { x with lanes, outstanding := [] }
      have final := State.lanesFinal_sweep (s := gone.setCtx c { x with lanes, outstanding := [] }) (by rw [ctx]; exact sweep)
      rwa [ctx, State.setCtx_setCtx] at final
    have op : (gone.setCtx c y).spareOp c = write := by
      have base : (gone.setCtx c y).ctxBase c = l.first := State.ctxBase_of_lock lock
      simp only [State.spareOp, base, State.ctx_setCtx_self, y, write]
      rw [if_neg (by simp)]
      simp only [funext Lane.output_eq]
    have offers := Brings.spare_offered (c := c) (x := y) reads.entry reads.deferred gone_eq sweep stalls target online room
    rw [op] at offers
    rw [reads.exec_outcome (normalise_good_read isRead length p id) (by simp) outcome (.cons formed offers) (by decide)
      (reads.toRests.spare_offered (x := y) gone_eq stalls _), State.transmit_of_rests _ (tx.spare_offered (x := y) gone_eq _)]
  · let y : Context := { x with state := .marking, flags := { x.flags with poisonWritten := true } }
    refine ⟨lostItems x.classes x.count, lostItems_ascending _ _, fun b mask => mem_lostItems_iff, ?_⟩
    have outcome : gone.ctxOutcome c (s.ctx c).serial p (.good []) = ([.offerSpare c], gone.setCtx c y) := by
      have ctx : gone.ctx c = x := rfl
      simp only [State.ctxOutcome, ctx, show x.state = .writing from writing, ne_eq, not_true, if_false, State.writeGood,
        show x.kind = .sweep from sweep, if_true, if_pos lost, x, y]
    have op : (gone.setCtx c y).spareOp c = { kind := .markbad, addr := l.first, count := x.count
                                              orig := .ctx c x.serial, fgWrite := false
                                              payload := .marks (lostItems x.classes x.count) } := by
      have base : (gone.setCtx c y).ctxBase c = l.first := State.ctxBase_of_lock lock
      simp only [State.spareOp, base, State.ctx_setCtx_self, y, if_true]
    have offers := Brings.spare_offered (c := c) (x := y) reads.entry reads.deferred gone_eq sweep stalls target online room
    rw [op] at offers
    rw [reads.exec_outcome (normalise_good_other (by rw [isWrite]; simp) p id data) (by simp) outcome offers (by decide)
      (reads.toRests.spare_offered (x := y) gone_eq stalls _), State.transmit_of_rests _ (tx.spare_offered (x := y) gone_eq _)]
  · subst same
    let y : Context := { x with flags := { x.flags with retried := true } }
    have outcome : (s.faulted p id).ctxOutcome c (s.ctx c).serial p .fault = ([.offerSpare c], (s.faulted p id).setCtx c y) := by
      have ctx : (s.faulted p id).ctx c = x := rfl
      have alive : ((s.faulted p id).port p).health ≠ .failed := by
        rw [State.faulted_port]
        show (s.port p).health ≠ _
        rw [online]
        simp
      rcases working with writing | marking
      · simp only [State.ctxOutcome, ctx, writing, ne_eq, not_true, if_false, State.spareMissing, alive, x, y]
      · simp only [State.ctxOutcome, ctx, marking, ne_eq, not_true, if_false, State.spareMissing, alive, x, y]
    have again : ((s.faulted p id).setCtx c y).spareOp c = e.op := by
      rw [op]
      have base : ((s.faulted p id).setCtx c y).ctxBase c = s.ctxBase c :=
        (State.ctxBase_of_lock (s := (s.faulted p id).setCtx c y) lock).trans (State.ctxBase_of_lock lock).symm
      simp only [State.spareOp, base, State.ctx_setCtx_self, y, x]
    have offers := Brings.spare_offered (c := c) (x := y) reads.entry reads.deferred (rfl : s.faulted p id = _) sweep stalls
      target online room
    rw [again] at offers
    rw [reads.exec_fault (reads.brings_missing (safe.imp_right .inl) outcome offers) (by decide)
      (reads.toRests.spare_offered (x := y) (rfl : s.faulted p id = _) stalls _),
      State.transmit_of_rests _ (tx.spare_offered (x := y) (rfl : s.faulted p id = _) _)]
    rfl

end

section
/-! SUPPORT. Results of contexts (R55, R91), their normal ends (R69, R94), and a FILL's write to its spare (R92, R93, R89). -/
namespace Sys2Proof.Machine

variable {s : State} {p q : PortId} {id : Nat} {e : ListEntry} {c : CtxId} {r : InFlight} {place : Place}

/-! ## Lanes (R83, R86) -/

theorem Lane.class_eq_good {l : Lane} : l.class = .good ↔ l.missing = false ∧ l.unreadable = false := by
  cases missing : l.missing <;> cases unreadable : l.unreadable <;> simp [Lane.class, missing, unreadable]

theorem LaneClass.lost_eq_false {cl : LaneClass} : cl.lost = false ↔ cl = .good := by cases cl <;> simp [LaneClass.lost]

theorem Lane.output_of_good {l : Lane} (good : l.class = .good) : l.output = l.acc := by
  rw [Lane.output, good]
  rfl

/-- GOOD inputs leave every lane's class as it was (R83, R86). -/
theorem lanesGood_class {lanes : List Lane} {data : List Sector} (good : ∀ k ∈ lanes, k.missing = false ∧ k.unreadable = false) :
    ∀ l ∈ lanesGood lanes data, l.missing = false ∧ l.unreadable = false := by
  intro l mem
  obtain ⟨i, at_⟩ := List.mem_iff_getElem?.1 mem
  rw [lanesGood, List.getElem?_zipWith] at at_
  cases lane : lanes[i]? with
  | none => rw [lane] at at_; simp at at_
  | some k =>
    cases sector : data[i]? with
    | none => rw [lane, sector] at at_; simp at at_
    | some d =>
      rw [lane, sector] at at_
      obtain rfl : k.addGood d = l := Option.some.inj at_
      exact good k (List.mem_of_getElem? lane)

theorem laneCauses_of_good {lanes : List Lane} (good : ∀ l ∈ lanes, l.missing = false ∧ l.unreadable = false) :
    laneCauses lanes = .none := by
  have unreadable : lanes.any (·.unreadable) = false := List.any_eq_false.2 (fun l mem => by simp [(good l mem).2])
  have missing : lanes.any (·.missing) = false := List.any_eq_false.2 (fun l mem => by simp [(good l mem).1])
  rw [laneCauses, unreadable, missing]
  rfl

theorem Causes.or_none (a : Causes) : a.or .none = a := by simp [Causes.or, Causes.none]

theorem classes_of_good {lanes : List Lane} (good : ∀ l ∈ lanes, l.missing = false ∧ l.unreadable = false) :
    lanes.map Lane.class = List.replicate lanes.length .good :=
  List.eq_replicate_iff.2 ⟨List.length_map _, fun cl mem => by
    obtain ⟨l, inside, rfl⟩ := List.mem_map.1 mem
    exact Lane.class_eq_good.2 (good l inside)⟩

/-! ## Results (R55, R91) -/

/-- Block b of a request holds no lost lane (R55). -/
theorem lostMask_eq_zero {lanes : List Lane} {b : Nat} : lostMask (lanes.map Lane.class) b = 0 ↔
    ∀ k, k < 8 → ¬ ∃ l, lanes[8 * b + k]? = some l ∧ l.class ≠ .good := by
  have bit (k : Nat) (inside : k < 8) : (lostMask (lanes.map Lane.class) b).getLsbD k = true ↔
      ∃ l, lanes[8 * b + k]? = some l ∧ l.class ≠ .good := by
    rw [getLsbD_lostMask _ _ inside, List.getElem?_map]
    cases lanes[8 * b + k]? <;> simp
  refine ⟨fun zero k inside lost => ?_, fun none_ => ?_⟩
  · have := (bit k inside).2 lost
    rw [zero] at this
    simp at this
  · apply BitVec.eq_of_getLsbD_eq
    intro k inside
    rw [Bool.eq_iff_iff, bit k inside]
    simpa using none_ k inside

/-- No lane of the requested blocks is lost: the request gets their data (R55, R91). -/
theorem resultOf_good {base count : Nat} {lanes : List Lane}
    (good : ∀ b, b < count → lostMask (lanes.map Lane.class) (place.offset - base + b) = 0) :
    resultOf base lanes (lanes.map Lane.class) place count =
      { status := .good
        payload := .sectors (((lanes.drop (8 * (place.offset - base))).take (8 * count)).map (·.acc)) } := by
  have none_ : (List.range count).find? (fun b => lostMask (lanes.map Lane.class) (place.offset - base + b) != 0) = none :=
    List.find?_eq_none.2 (fun b mem => by simp [good b (List.mem_range.1 mem)])
  have outputs : ((lanes.drop (8 * (place.offset - base))).take (8 * count)).map Lane.output =
      ((lanes.drop (8 * (place.offset - base))).take (8 * count)).map (·.acc) := by
    refine List.map_congr_left (fun l mem => Lane.output_of_good ?_)
    obtain ⟨i, at_⟩ := List.mem_iff_getElem?.1 mem
    have inside : i < 8 * count := by
      have := (List.getElem?_eq_some_iff.1 at_).1
      simp only [List.length_take, lt_inf_iff] at this
      exact this.1
    rw [List.getElem?_take_of_lt inside, List.getElem?_drop] at at_
    by_contra lost
    refine lostMask_eq_zero.1 (good (i / 8) (by omega)) (i % 8) (by omega) ⟨l, ?_, lost⟩
    rw [← at_]
    congr 1
    omega
  rw [resultOf, none_, outputs]

/-- The lowest block that holds a lost lane is reported with its mask (R55, R91). -/
theorem resultOf_media {base count b : Nat} {lanes : List Lane} (inside : b < count)
    (lost : lostMask (lanes.map Lane.class) (place.offset - base + b) ≠ 0)
    (before : ∀ a, a < b → lostMask (lanes.map Lane.class) (place.offset - base + a) = 0) :
    resultOf base lanes (lanes.map Lane.class) place count =
      { status := .media, badOffset := place.offset + b
        mask := lostMask (lanes.map Lane.class) (place.offset - base + b) } := by
  have found : (List.range count).find? (fun b => lostMask (lanes.map Lane.class) (place.offset - base + b) != 0) = some b :=
    find?_lowest List.pairwise_lt_range (List.mem_range.2 inside) (by simpa using lost)
      (fun a below => by simp [before a below])
  rw [resultOf, found]

/-- A context's result answers its request (R55, R91, R92). -/
theorem State.deliverResult_eq (origin : (s.ctx c).origin = .tag r.tag) (request : s.entry? r.tag = some r)
    (issued : r.state = .issued) (placed : r.place = some place) (up : s.channel.up = true) : s.deliverResult c =
      s.withResponse r.tag (resultOf (s.ctx c).first (s.ctx c).lanes (s.ctx c).classes place r.count) := by
  have tag : (s.ctx c).request = some r.tag := by simp only [Context.request, origin]
  simp only [State.deliverResult, tag, request, placed]
  exact State.answer_issued up request issued _

/-! ## The normal end of a context (R69, R94) -/

/-- A context that no held request names ends normally (R69, R80, R94). -/
theorem State.endNormally_unheld (held : ∀ h ∈ s.slt.held, h.lock ≠ c) (owed : s.engine.owed = none) :
    s.endNormally c = ([.arbiter, .examine], s.ended c (s.ctx c).flags) := by
  have freed := State.freeCtxs_alone (s := { s with engine := { s.engine with sticky := s.engine.sticky.or (s.ctx c).flags } })
    held owed
  simp only [State.endNormally, State.heldBy_alone held, freed]
  rfl

/-- A context that nobody waits for ends normally alone. -/
theorem State.endNormally_alone (nobody : s.nobodyWaits c) (owed : s.engine.owed = none) :
    s.endNormally c = ([.arbiter, .examine], s.ended c (s.ctx c).flags) := State.endNormally_unheld nobody.1 owed

theorem State.ended_setCtx {x : Context} (serial : x.serial = (s.ctx c).serial) (flags : Causes) :
    (s.setCtx c x).ended c flags = s.ended c flags := by
  have same : (s.engine.ctxs.set c x).set c (.blank (s.ctx c).serial) = s.engine.ctxs.set c (.blank (s.ctx c).serial) := by
    simp
  simp only [State.ended, State.ctx_setCtx_self, serial]
  rw [show (s.setCtx c x).engine.ctxs = s.engine.ctxs.set c x from rfl, same]
  rfl

/-- A context's end, the port's event coming to its end (R20, R69, R94). -/
theorem Brings.ended {t : State} {n : Nat} (flags : Causes) (deferred : (s.port p).deferred = [])
    (base : t = (s.setPort p { (s.port p).without id with errors := n }).ended c flags) (empty : s.engine.waitList = [])
    (idle : s.job.state ≠ .active) : Brings 3 ([.arbiter, .examine] ++ [.afterDeparture p]) t ((s.ended c flags).left p id n) := by
  subst base
  have quiet : Brings 2 [.arbiter, .examine] ((s.setPort p { (s.port p).without id with errors := n }).ended c flags) _ :=
    .afterFree empty (State.noLaunch_of_not_active idle)
  refine quiet.append (.departed ?_)
  show ((s.setPort p { (s.port p).without id with errors := n }).port p).deferred = []
  rw [State.port_setPort_self]
  exact deferred

theorem State.Rests.ended (h : s.Rests) (c : CtxId) (flags : Causes) : (s.ended c flags).Rests := by
  have sticky : ({ s with engine := { s.engine with sticky := s.engine.sticky.or flags } } : State).Rests :=
    { up := h.up, link := h.link, commit := h.commit, stall := h.stall, timer := h.timer, owed := h.owed }
  exact sticky.freed c

theorem State.Rests.left_ended (h : s.Rests) (noCommit : s.committing = false) (c : CtxId) (flags : Causes) (p : PortId)
    (id n : Nat) : ((s.ended c flags).left p id n).Rests := ((h.ended c flags).left noCommit p id n).1

theorem State.txRests.left_ended (h : s.txRests) (c : CtxId) (flags : Causes) (p : PortId) (id n : Nat) :
    ((s.ended c flags).left p id n).txRests := by
  rw [State.left, State.issue_eq]
  exact h.of_same rfl rfl rfl

/-! ## Spare operations that come back (R89, R90, R93) -/

theorem State.ctxOutcome_writeGood (writing : (s.ctx c).state = .writing) (p : PortId) (data : List Sector) :
    s.ctxOutcome c (s.ctx c).serial p (.good data) = s.writeGood c := by
  simp only [State.ctxOutcome, ne_eq, not_true, if_false, writing]

theorem State.ctxOutcome_writeFault (writing : (s.ctx c).state = .writing) (p : PortId) :
    s.ctxOutcome c (s.ctx c).serial p .fault = s.spareMissing c p := by
  simp only [State.ctxOutcome, ne_eq, not_true, if_false, writing]

/-! ## The lanes of a FILL are final (R92) -/

theorem State.port_left_bound (s : State) (p q : PortId) (id n : Nat) :
    ((s.setPort p { (s.port p).without id with errors := n }).port q).bound = (s.port q).bound := by
  rw [State.port_setPort]
  split
  · next same => rw [← same]; rfl
  · rfl

/-- What lets a FILL write (R92). -/
theorem State.fillBound_iff : s.fillBound c = true ↔ ∃ q, (s.ctx c).target = some q ∧ (s.port q).bound = true ∧
    (s.ctx c).targetMember ≠ none ∧ s.job.target = (s.ctx c).targetMember := by
  unfold State.fillBound
  cases target : (s.ctx c).target with
  | none => simp
  | some q => simp [Option.isSome_iff_ne_none, and_assoc]

/-- The stripes of the ahead set with one more (R110). -/
theorem mem_insertStripe {t u : Nat} {us : List Nat} : u ∈ insertStripe t us ↔ u = t ∨ u ∈ us := by
  induction us with
  | nil => simp [insertStripe]
  | cons v vs ih =>
    unfold insertStripe
    split
    · simp
    · split
      · next same => subst same; simp
      · simp only [List.mem_cons, ih]
        tauto

theorem insertStripe_ascending {t : Nat} {us : List Nat} (ascending : us.Pairwise (· < ·)) :
    (insertStripe t us).Pairwise (· < ·) := by
  induction us with
  | nil => simp [insertStripe]
  | cons v vs ih =>
    obtain ⟨first, rest⟩ := List.pairwise_cons.1 ascending
    unfold insertStripe
    split
    · next less =>
      exact List.pairwise_cons.2 ⟨fun u mem => by
        rcases List.mem_cons.1 mem with rfl | mem
        · exact less
        · exact less.trans (first u mem), ascending⟩
    · split
      · exact ascending
      · next more other =>
        refine List.pairwise_cons.2 ⟨fun u mem => ?_, ih rest⟩
        rcases mem_insertStripe.1 mem with rfl | mem
        · omega
        · exact first u mem

/-- An admission, and the foreground's count, do not read the in-flight table or the responses (R18, R57). -/
theorem State.enlist_withResponse (s : State) (tag : Nat) (a : Response) (q : PortId) (op : DriveOp) :
    (s.withResponse tag a).enlist q op = (s.enlist q op).withResponse tag a := by
  rw [State.enlist_eq, State.enlist_eq]
  rfl

/-- A FILL whose lanes are formed and whose request has its answer; the context no longer names it (R86, R92). -/
def State.filled (s : State) (c : CtxId) (r : InFlight) (place : Place) : State :=
  (s.setCtx c { s.ctx c with
    classes := (s.ctx c).lanes.map Lane.class, flags := (s.ctx c).flags.or (laneCauses (s.ctx c).lanes)
    origin := .noRequest }).withResponse r.tag
      (resultOf (s.ctx c).first (s.ctx c).lanes ((s.ctx c).lanes.map Lane.class) place r.count)

theorem State.filled_ctx (s : State) (c : CtxId) (r : InFlight) (place : Place) : (s.filled c r place).ctx c = { s.ctx c with
    classes := (s.ctx c).lanes.map Lane.class, flags := (s.ctx c).flags.or (laneCauses (s.ctx c).lanes)
    origin := .noRequest } := State.ctx_setCtx_self ..

/-- The lanes of a context are formed, and its request answered (R55, R86, R91, R92). -/
theorem State.formed_delivered (origin : (s.ctx c).origin = .tag r.tag) (request : s.entry? r.tag = some r)
    (issued : r.state = .issued) (placed : r.place = some place) (up : s.channel.up = true) :
    (s.formed c).deliverResult c = (s.formed c).withResponse r.tag
      (resultOf (s.ctx c).first (s.ctx c).lanes ((s.ctx c).lanes.map Lane.class) place r.count) := by
  have ctx : (s.formed c).ctx c = _ := State.ctx_setCtx_self ..
  have result := State.deliverResult_eq (s := s.formed c) (c := c) (by rw [ctx]; exact origin) request issued placed up
  rwa [ctx] at result

/-- A context whose request has its result and which no longer names it (R92). -/
def State.unasked (s : State) (c : CtxId) : State :=
  ((s.formed c).deliverResult c).setCtx c { ((s.formed c).deliverResult c).ctx c with origin := .noRequest }

/-- What the final lanes of a context bring, by its kind (R86, R91, R92). -/
theorem State.lanesFinal_eq (s : State) (c : CtxId) : s.lanesFinal c = match (s.ctx c).kind with
    | .sweep => ([.offerSpare c], (s.formed c).setCtx c { (s.formed c).ctx c with state := .writing })
    | .degraded => ((s.formed c).deliverResult c).endNormally c
    | .fill =>
      if ((s.ctx c).lanes.map Lane.class).any LaneClass.lost || !(s.unasked c).fillBound c then (s.unasked c).endNormally c
      else ([.offerSpare c], (s.unasked c).setCtx c { (s.unasked c).ctx c with state := .writing }) := rfl

theorem State.lanesFinal_degraded (degraded : (s.ctx c).kind = .degraded) :
    s.lanesFinal c = ((s.formed c).deliverResult c).endNormally c := by
  rw [State.lanesFinal_eq, degraded]

/-- A FILL writes its strip or ends (R92). -/
theorem State.lanesFinal_fill (fill : (s.ctx c).kind = .fill) (origin : (s.ctx c).origin = .tag r.tag)
    (request : s.entry? r.tag = some r) (issued : r.state = .issued) (placed : r.place = some place)
    (up : s.channel.up = true) : s.lanesFinal c =
      if ((s.ctx c).lanes.map Lane.class).any LaneClass.lost || !s.fillBound c then (s.filled c r place).endNormally c
      else ([.offerSpare c], (s.filled c r place).setCtx c { (s.filled c r place).ctx c with state := .writing }) := by
  have delivered := State.formed_delivered origin request issued placed up
  have noted : s.unasked c = s.filled c r place := by
    have ctx : ((s.formed c).withResponse r.tag (resultOf (s.ctx c).first (s.ctx c).lanes ((s.ctx c).lanes.map Lane.class)
        place r.count)).ctx c = _ := State.ctx_setCtx_self ..
    rw [State.unasked, delivered, ctx]
    exact congrArg (State.withResponse · r.tag _) (State.setCtx_setCtx ..)
  have bound : (s.filled c r place).fillBound c = s.fillBound c := by
    rw [Bool.eq_iff_iff, State.fillBound_iff, State.fillBound_iff, State.filled_ctx]
    rfl
  rw [← bound, ← noted, State.lanesFinal_eq, fill]

end Sys2Proof.Machine

open Sys2Proof Sys2Proof.Machine

/-- Settles O30: the FILL's answer and its WRITE, its stripe's insertion, and its end at a failed port (R89, R92, R93,
R110). -/
theorem fillWritesStrip : Obligations.FillWritesStrip := by
  intro s p id e c q data reads fill target x
  have stalls : x.stalled = false := reads.stall c
  have gone_eq : s.gone p id = s.setPort p { (s.port p).without id with errors := (s.port p).errors } := rfl
  refine ⟨fun marked member job => ⟨fun r place l isRead length reading last origin request issued placed lock online room good => ?_,
    fun isWrite writing tx nobody swept ahead fresh few ascending => ?_⟩, fun isWrite writing tx nobody idle failed => ?_⟩
  · intro lanes write asked
    let y : Context := { x with state := .writing, origin := .noRequest, outstanding := [], lanes := lanes
                                classes := List.replicate lanes.length .good }
    let read := (s.gone p id).setCtx c { x with lanes, outstanding := [] }
    let a : Response := { status := .good, payload := .sectors asked }
    have read_ctx : read.ctx c = { x with lanes, outstanding := [] } := State.ctx_setCtx_self ..
    have lanes_good : ∀ l ∈ lanes, l.missing = false ∧ l.unreadable = false := lanesGood_class good
    have outcome := State.ReadsFor.outcome_last (id := id) reading last data
    have result : resultOf x.first lanes (lanes.map Lane.class) place r.count = a :=
      resultOf_good (fun b _ => lostMask_eq_zero.2 (fun k _ ⟨l, at_, lost⟩ =>
        lost (Lane.class_eq_good.2 (lanes_good l (List.mem_of_getElem? at_)))))
    have none_ : (lanes.map Lane.class).any LaneClass.lost = false := by
      rw [classes_of_good lanes_good]
      simp [LaneClass.lost]
    have bound : read.fillBound c = true := by
      rw [State.fillBound_iff, read_ctx]
      exact ⟨q, target, (State.port_left_bound ..).trans marked, member, job⟩
    have flags : x.flags.or (laneCauses lanes) = x.flags := by rw [laneCauses_of_good lanes_good, Causes.or_none]
    have filled : read.filled c r place = ((s.gone p id).setCtx c { y with state := x.state }).withResponse r.tag a := by
      have classes := classes_of_good lanes_good
      rw [classes] at result
      rw [State.filled, read_ctx]
      simp only [read, State.setCtx_setCtx, result, flags, classes, y]
    have formed : handle (.lanesFinal c) read = ([.offerSpare c], ((s.gone p id).setCtx c y).withResponse r.tag a) := by
      have final := State.lanesFinal_fill (s := read) (c := c) (r := r) (place := place) (by rw [read_ctx]; exact fill)
        (by rw [read_ctx]; exact origin) request issued placed reads.up
      rw [bound, read_ctx] at final
      simp only [none_, Bool.not_true, Bool.or_self, Bool.false_eq_true, if_false] at final
      refine final.trans (congrArg (Prod.mk _) ?_)
      have ctx : (((s.gone p id).setCtx c { y with state := x.state }).withResponse r.tag a).ctx c =
        { y with state := x.state } := State.ctx_setCtx_self ..
      rw [filled, ctx]
      exact congrArg (State.withResponse · r.tag a) (State.setCtx_setCtx ..)
    have offered : handle (.offerSpare c) (((s.gone p id).setCtx c y).withResponse r.tag a) =
        ([], (((s.gone p id).setCtx c y).enlist q write).countForeground.withResponse r.tag a) := by
      have ctx : (((s.gone p id).setCtx c y).withResponse r.tag a).ctx c = y := State.ctx_setCtx_self ..
      have op : (((s.gone p id).setCtx c y).withResponse r.tag a).spareOp c = write := by
        have base : (((s.gone p id).setCtx c y).withResponse r.tag a).ctxBase c = l.first := State.ctxBase_of_lock lock
        have outputs : lanes.map Lane.output = lanes.map (·.acc) := List.map_congr_left (fun l mem =>
          Lane.output_of_good (Lane.class_eq_good.2 (lanes_good l mem)))
        rw [State.spareOp, base, ctx]
        simp only [y, outputs, write]
        rfl
      have admitted := State.offerSpare_admitted (s := ((s.gone p id).setCtx c y).withResponse r.tag a) (c := c) (q := q)
        (by rw [ctx]; exact stalls) (by rw [ctx]; exact target) ((s.health_left p q id _).trans online)
        (State.hasRoom_left reads.entry room _)
      rw [op, State.enlist_withResponse] at admitted
      have kind : (((((s.gone p id).setCtx c y).enlist q write).withResponse r.tag a).ctx c).kind ≠ .sweep := by
        have same : ((((s.gone p id).setCtx c y).enlist q write).withResponse r.tag a).ctx c = y := by
          rw [State.enlist_eq]
          exact ctx
        rw [same]
        show x.kind ≠ _
        rw [fill]
        simp
      rw [State.countContext, if_neg kind] at admitted
      exact admitted
    have deferred : (((((s.gone p id).setCtx c y).enlist q write).countForeground.withResponse r.tag a).port p).deferred = [] := by
      show ((((s.gone p id).setCtx c y).enlist q write).port p).deferred = []
      rw [State.enlist_deferred]
      show ((s.gone p id).port p).deferred = []
      rw [State.gone_port]
      exact reads.deferred
    have rests : ((((s.gone p id).setCtx c y).enlist q write).countForeground.issue p).Rests := by
      have gone : (s.gone p id).Rests := reads.toRests.of_same reads.timer reads.commit rfl rfl rfl rfl
      have enlisted := (gone.setCtx c (x := y) stalls).enlist q write
      exact State.Rests.issue (enlisted.of_same (u := (((s.gone p id).setCtx c y).enlist q write).countForeground) enlisted.timer enlisted.commit rfl rfl rfl rfl) p
    have noCommit : ((((s.gone p id).setCtx c y).enlist q write).countForeground.issue p).committing = false := by
      rw [State.issue_committing, State.enlist_eq]
      exact reads.noCommit
    have effects := Brings.departed deferred
    rw [State.issue_withResponse] at effects
    rw [reads.exec_outcome (normalise_good_read isRead length p id) (by simp) outcome
      (.cons formed (.step offered effects)) (by decide) (rests.withResponse noCommit _ _), State.transmit_withResponse]
    rfl
  · let grown : State := { s.gone p id with job := { s.job with ahead := insertStripe x.stripe s.job.ahead } }
    have inserts : (s.gone p id).insertAhead c = grown := by
      have bound : (s.gone p id).fillBound c = true :=
        State.fillBound_iff.2 ⟨q, target, (State.port_left_bound ..).trans marked, member, job⟩
      have sweepable : (s.gone p id).job.state.sweepable = true := by
        show s.job.state.sweepable = true
        rcases swept with state | state | state <;> rw [state] <;> rfl
      have absent : (!(s.gone p id).spareCurrent x.stripe) = true := by
        rw [show (s.gone p id).spareCurrent x.stripe = s.spareCurrent x.stripe from rfl, fresh]
        rfl
      exact if_pos ⟨sweepable, bound, ahead, absent, few⟩
    have outcome : (s.gone p id).ctxOutcome c (s.ctx c).serial p (.good []) =
        ([.arbiter, .examine], grown.ended c x.flags) := by
      have kind : ((s.gone p id).ctx c).kind ≠ .sweep := by
        show x.kind ≠ _
        rw [show x.kind = .fill from fill]
        simp
      have ends := State.endNormally_alone (s := grown) (c := c) nobody reads.owed
      refine (State.ctxOutcome_writeGood (s := s.gone p id) writing p []).trans ?_
      rw [State.writeGood, if_neg kind, inserts]
      exact ends
    refine ⟨insertStripe x.stripe s.job.ahead, insertStripe_ascending ascending, fun t => mem_insertStripe, ?_⟩
    have idle : s.job.state ≠ .active := by rcases swept with state | state | state <;> rw [state] <;> simp
    let t : State := { s with job := { s.job with ahead := insertStripe x.stripe s.job.ahead } }
    have effects := Brings.ended (s := t) (p := p) (id := id) (c := c) (n := (s.port p).errors) x.flags reads.deferred rfl
      nobody.2 idle
    have t_rests : t.Rests := reads.toRests.of_same reads.timer reads.commit rfl rfl rfl rfl
    rw [reads.exec_outcome (normalise_good_other (by rw [isWrite]; simp) p id data) (by simp) outcome effects (by decide)
      (t_rests.left_ended reads.noCommit ..), State.transmit_of_rests _ (State.txRests.left_ended (s := t) tx c x.flags p id _)]
  · have outcome : (s.faulted p id).ctxOutcome c (s.ctx c).serial p .fault =
        ([.arbiter, .examine], (s.faulted p id).ended c x.flags) := by
      have dead : ((s.faulted p id).port p).health = .failed := by rw [State.faulted_port]; exact failed
      have ends := State.endNormally_alone (s := s.faulted p id) (c := c) nobody reads.owed
      refine (State.ctxOutcome_writeFault (s := s.faulted p id) writing p).trans ?_
      rw [State.spareMissing, if_pos dead, State.spareGone, if_pos (show ((s.faulted p id).ctx c).kind = .fill from fill)]
      exact ends
    have effects := Brings.ended (s := s) (p := p) (id := id) (c := c) (n := min ((s.port p).errors + 1) 15) x.flags
      reads.deferred (rfl : (s.faulted p id).ended c x.flags = _) nobody.2 idle
    rw [reads.exec_fault (reads.brings_missing (.inr (.inr (by rw [failed]; simp))) outcome effects) (by decide)
      (reads.toRests.left_ended reads.noCommit ..), State.transmit_of_rests _ (tx.left_ended c x.flags p id _)]

end

section
/-! SUPPORT. Contexts that end with a result (R55, R91), and what their end releases (R69, R80). -/
namespace Sys2Proof.Machine

variable {s : State} {p q : PortId} {id : Nat} {e : ListEntry} {c : CtxId} {r : InFlight} {place : Place}

/-! ## A result and the end (R91, R92) -/

theorem State.formed_ended (s : State) (c : CtxId) (flags : Causes) : (s.formed c).ended c flags = s.ended c flags := by
  unfold State.formed
  exact State.ended_setCtx (by rfl) flags

theorem State.filled_ended (s : State) (c : CtxId) (r : InFlight) (place : Place) (flags : Causes) :
    (s.filled c r place).ended c flags = (s.ended c flags).withResponse r.tag
      (resultOf (s.ctx c).first (s.ctx c).lanes ((s.ctx c).lanes.map Lane.class) place r.count) := by
  unfold State.filled
  rw [← State.ended_setCtx (s := s) (x := { s.ctx c with
    classes := (s.ctx c).lanes.map Lane.class, flags := (s.ctx c).flags.or (laneCauses (s.ctx c).lanes)
    origin := .noRequest }) (by rfl)]
  rfl

/-- A context that answers its request and ends (R55, R91, R92). -/
theorem State.lanesFinal_ends (kind : (s.ctx c).kind = .degraded ∨ (s.ctx c).kind = .fill ∧
      ¬ ((∀ l ∈ (s.ctx c).lanes, l.class = .good) ∧ s.fillBound c = true)) (origin : (s.ctx c).origin = .tag r.tag)
    (request : s.entry? r.tag = some r) (issued : r.state = .issued) (placed : r.place = some place)
    (up : s.channel.up = true) (nobody : s.nobodyWaits c) (owed : s.engine.owed = none) : s.lanesFinal c =
      ([.arbiter, .examine], (s.ended c ((s.ctx c).flags.or (laneCauses (s.ctx c).lanes))).withResponse r.tag
        (resultOf (s.ctx c).first (s.ctx c).lanes ((s.ctx c).lanes.map Lane.class) place r.count)) := by
  rcases kind with degraded | ⟨fill, reads⟩
  · rw [State.lanesFinal_degraded degraded, State.formed_delivered origin request issued placed up]
    have ends := State.endNormally_alone (c := c) (s := (s.formed c).withResponse r.tag
      (resultOf (s.ctx c).first (s.ctx c).lanes ((s.ctx c).lanes.map Lane.class) place r.count)) nobody owed
    have ctx : (s.formed c).ctx c = _ := State.ctx_setCtx_self ..
    refine ends.trans (congrArg (Prod.mk _) ?_)
    rw [show ((s.formed c).withResponse r.tag _).ctx c = (s.formed c).ctx c from rfl, ctx]
    exact congrArg (fun t : State => t.withResponse r.tag
      (resultOf (s.ctx c).first (s.ctx c).lanes ((s.ctx c).lanes.map Lane.class) place r.count)) (s.formed_ended c _)
  · have idles : (((s.ctx c).lanes.map Lane.class).any LaneClass.lost || !s.fillBound c) = true := by
      by_contra writes
      rw [Bool.not_eq_true, Bool.or_eq_false_iff] at writes
      obtain ⟨none_, bound⟩ := writes
      refine reads ⟨fun l mem => ?_, by simpa using bound⟩
      rw [List.any_eq_false] at none_
      exact LaneClass.lost_eq_false.1 (by simpa using none_ _ (List.mem_map_of_mem mem))
    rw [State.lanesFinal_fill fill origin request issued placed up, if_pos idles]
    have ends := State.endNormally_alone (s := s.filled c r place) (c := c) nobody owed
    rw [State.filled_ctx] at ends
    exact ends.trans (congrArg (Prod.mk _) (s.filled_ended c r place _))

/-- A context's end after its request's answer, the port's event coming to its end (R20, R69). -/
theorem Brings.ended_answered {t : State} {n tag : Nat} {a : Response} (flags : Causes) (deferred : (s.port p).deferred = [])
    (base : t = ((s.setPort p { (s.port p).without id with errors := n }).ended c flags).withResponse tag a)
    (empty : s.engine.waitList = []) (idle : s.job.state ≠ .active) :
    Brings 3 ([.arbiter, .examine] ++ [.afterDeparture p]) t (((s.ended c flags).left p id n).withResponse tag a) := by
  subst base
  let t := ((s.setPort p { (s.port p).without id with errors := n }).ended c flags).withResponse tag a
  have quiet : Brings 2 [.arbiter, .examine] t t := .afterFree empty (State.noLaunch_of_not_active idle)
  have none_ : (t.port p).deferred = [] := by
    show ((s.setPort p { (s.port p).without id with errors := n }).port p).deferred = []
    rw [State.port_setPort_self]
    exact deferred
  have departs := Brings.departed none_
  rw [show t.issue p = (((s.ended c flags).left p id n).withResponse tag a) from State.issue_withResponse ..] at departs
  exact quiet.append departs

/-! ## What an end releases (R69, R70, R80) -/

theorem State.deliverResult_none (origin : (s.ctx c).origin = .noRequest) : s.deliverResult c = s := by
  simp only [State.deliverResult, Context.request, origin]

/-- The end of a context whose lock one held request names (R69). -/
theorem State.endNormally_releases {tag : Nat} (held : s.slt.held = [{ tag, lock := c }]) (owed : s.engine.owed = none) :
    s.endNormally c = ([.route tag false, .arbiter, .examine], ({ s.ended c (s.ctx c).flags with
      slt := { (s.ended c (s.ctx c).flags).slt with held := [] } } : State).setEntry tag (InFlight.toRouting .held)) := by
  have by_ : s.heldBy [c] = [tag] := by simp [State.heldBy, held]
  let t : State := { s with engine := { s.engine with sticky := s.engine.sticky.or (s.ctx c).flags } }
  have freed : t.freeCtxs [c] = _ := State.freeCtxs_eq ..
  rw [State.blanked_alone, locks_alone, show t.heldBy [c] = [tag] from by_, show t.slt.held = _ from held,
    show t.engine.owed = none from owed] at freed
  simp only [State.endNormally, by_]
  refine congrArg (Prod.mk _) (freed.trans ?_)
  simp [State.ended, State.setEntry, t, owed]
  rfl

/-- A request in ROUTING with its place is routed where no lock request is owed (R46, R56). -/
theorem State.route_decides {x : InFlight} (owed : s.engine.owed = none) (entry : s.entry? x.tag = some x)
    (routing : x.state = .routing) (placed : x.place = some place) (offered : Bool) :
    handle (.route x.tag offered) s = s.decideRoute x place offered := by
  simp only [handle, State.route, owed, Option.isSome_none, Bool.false_eq_true, if_false, entry, routing, placed]

/-- A request forwarded to a port that is ONLINE with room (R51, R57). -/
theorem State.forwardTo_admitted {x : InFlight} (online : (s.port q).health = .online) (room : (s.port q).hasRoom = true) :
    s.forwardTo x q = ([], (s.enlist q x.driveOp).countForeground.setEntry x.tag
      (fun y => { y with state := .issued, forward := some (q, x.driveOp.kind), data := [] })) := by
  have offered : s.offerForeground q x.driveOp = (.admitted, (s.enlist q x.driveOp).countForeground) := by
    rw [State.offerForeground, if_neg (by simpa using online), if_pos room]
  simp only [State.forwardTo, offered]

/-- A request for reconstruction takes a context and asks for its lock (R49, R63, R78, R80). -/
theorem State.reconstruct_takes {x : InFlight} {kind : CtxKind} {mask : List PortId} {target : Option PortId} {tm : Option Nat}
    {offered : Bool} (turn : offered = true ∨ s.engine.waitList = []) (available : s.foregroundCtx = some c)
    (prompt : s.engine.putsOff = false) : s.reconstruct x place kind mask target tm offered =
      State.lockRequest { (s.setCtx c (s.requestCtx c x place kind mask target tm)).setEntry x.tag
        (fun z => { z with state := .issued, ctx := some c }) with
          engine := { (s.setCtx c (s.requestCtx c x place kind mask target tm)).engine with late := s.engine.late.tail } } c := by
  simp only [State.reconstruct]
  rw [if_pos turn, available]
  simp only [prompt, Bool.false_eq_true, if_false]
  rfl

/-- With tags that name one entry each, a change of an entry is what it makes of that entry (R40). -/
theorem State.setEntry_at {x : InFlight} (tags : (s.table.map (·.tag)).Nodup) (entry : s.entry? x.tag = some x)
    {f g : InFlight → InFlight} (same : f x = g x) : s.setEntry x.tag f = s.setEntry x.tag g := by
  have mem : x ∈ s.table := List.mem_of_find?_eq_some entry
  have table : s.table.map (fun y => if y.tag = x.tag then f y else y) =
      s.table.map (fun y => if y.tag = x.tag then g y else y) := by
    refine List.map_congr_left (fun y inside => ?_)
    split
    · next at_ => rw [List.inj_on_of_nodup_map tags inside mem at_, same]
    · rfl
  rw [State.setEntry, State.setEntry, table]

/-- An admission, and the issue rule, do not read the in-flight table (R18, R20). -/
theorem State.enlist_setEntry (s : State) (tag : Nat) (f : InFlight → InFlight) (q : PortId) (d : DriveOp) :
    (s.setEntry tag f).enlist q d = (s.enlist q d).setEntry tag f := by
  rw [State.enlist_eq, State.enlist_eq]
  rfl

theorem State.issue_setEntry (s : State) (tag : Nat) (f : InFlight → InFlight) (q : PortId) :
    (s.setEntry tag f).issue q = (s.issue q).setEntry tag f := by
  rw [State.issue_eq, State.issue_eq]
  rfl

/-- Locks that are this context's, or apart from a stripe, lock it no more once the context has ended (R69). -/
theorem State.ended_unlocked {flags : Causes} (apart : ∀ l ∈ s.slt.locks, l.ctx = c ∨
    l.overlaps (s.firstBlock place.stripe) (s.lastBlock place.stripe) = false) :
    (s.ended c flags).locked place.stripe = false := by
  rw [State.locked, List.any_eq_false]
  intro l mem
  obtain ⟨inside, other⟩ := List.mem_filter.1 mem
  have clear : l.overlaps (s.firstBlock place.stripe) (s.lastBlock place.stripe) = false :=
    (apart l inside).resolve_left (by simpa using other)
  rw [show (s.ended c flags).firstBlock place.stripe = s.firstBlock place.stripe from rfl,
    show (s.ended c flags).lastBlock place.stripe = s.lastBlock place.stripe from rfl, clear]
  simp

theorem countP_lt_of_imp {α : Type} {f g : α → Bool} {x : α} {xs : List α} (imp : ∀ y, f y = true → g y = true) (mem : x ∈ xs)
    (left : f x = false) (counted : g x = true) : xs.countP f < xs.countP g := by
  induction xs with
  | nil => simp at mem
  | cons y ys ih =>
    have rest : ys.countP f ≤ ys.countP g := List.countP_mono_left (fun z _ => imp z)
    rcases List.mem_cons.1 mem with rfl | inside
    · rw [List.countP_cons_of_neg (by simp [left]), List.countP_cons_of_pos counted]
      omega
    · have fewer := ih inside
      rw [List.countP_cons, List.countP_cons]
      cases fy : f y with
      | true => simp [imp y fy]; omega
      | false => simp; omega

/-- A foreground context that ends is one fewer in use (R77). -/
theorem State.foregroundInUse_ended {flags : Causes} (used : (s.ctx c).state ≠ .free) (kind : (s.ctx c).kind ≠ .sweep) :
    (s.ended c flags).foregroundInUse < s.foregroundInUse := by
  have ctx (k : CtxId) : (s.ended c flags).ctx k = if c = k then .blank (s.ctx c).serial else s.ctx k :=
    State.ctx_setCtx (s := s) c k _
  refine countP_lt_of_imp (x := c) (fun k counts => ?_) (mem_allCtxs c) ?_ (by simp [used, kind])
  · rw [ctx] at counts
    split at counts
    · simp [Context.blank] at counts
    · exact counts
  · rw [ctx, if_pos rfl]
    rfl

/-- An entry that leaves a list and is no foreground write leaves their number as it was (R63). -/
theorem State.foregroundWrites_gone (entry : (s.port p).outstanding? id = some e) (other : e.op.fgWrite = false)
    (first last : Nat) : (s.gone p id).foregroundWrites first last = s.foregroundWrites first last := by
  rw [State.foregroundWrites, State.foregroundWrites]
  refine congrArg List.sum (List.map_congr_left (fun k _ => ?_))
  rw [State.gone, State.port_setPort]
  split
  · next same =>
    subst same
    rw [Port.outstanding?_eq] at entry
    obtain ⟨a, before, after, none_, issue, list, erased⟩ := List.exists_of_eraseP (List.mem_of_find?_eq_some entry)
      (List.find?_some (p := ListEntry.isIssue id) entry)
    have found : a = e := by
      rw [list, List.find?_append, List.find?_eq_none.2 (fun x mem => by simpa using none_ x mem)] at entry
      simpa [issue] using entry
    rw [Port.without_list, erased, list, found]
    simp [List.countP_append, other]
  · rfl

/-- The last READ of a DEGRADED context without a request ends it (R91, R98). -/
theorem State.lanesFinal_unasked {data : List Sector} (degraded : (s.ctx c).kind = .degraded)
    (origin : (s.ctx c).origin = .noRequest) :
    handle (.lanesFinal c) ((s.gone p id).setCtx c { s.ctx c with lanes := lanesGood (s.ctx c).lanes data, outstanding := [] }) =
      ((s.gone p id).setCtx c { s.ctx c with
        lanes := lanesGood (s.ctx c).lanes data, outstanding := []
        classes := (lanesGood (s.ctx c).lanes data).map Lane.class
        flags := (s.ctx c).flags.or (laneCauses (lanesGood (s.ctx c).lanes data)) }).endNormally c := by
  let x : Context := { s.ctx c with lanes := lanesGood (s.ctx c).lanes data, outstanding := [] }
  have ctx : ((s.gone p id).setCtx c x).ctx c = x := State.ctx_setCtx_self ..
  have formed : ((s.gone p id).setCtx c x).formed c = (s.gone p id).setCtx c { x with
      classes := x.lanes.map Lane.class, flags := x.flags.or (laneCauses x.lanes) } := by
    rw [State.formed, ctx, State.setCtx_setCtx]
  show ((s.gone p id).setCtx c x).lanesFinal c = _
  rw [State.lanesFinal_degraded (by rw [ctx]; exact degraded), formed,
    State.deliverResult_none (by rw [State.ctx_setCtx_self]; exact origin)]

end Sys2Proof.Machine

open Sys2Proof Sys2Proof.Machine

/-- Settles O29: the result with the end, and what the end releases or offers (R55, R69, R80, R91). -/
theorem degradedReadAnswered : Obligations.DegradedReadAnswered := by
  refine ⟨fun s p id e c r place data reads isRead length reading last origin request issued placed nobody idle => ?_, ?_⟩
  · intro x lanes writes kind from_ lost done result
    let read := (s.gone p id).setCtx c { x with lanes, outstanding := [] }
    have read_ctx : read.ctx c = { x with lanes, outstanding := [] } := State.ctx_setCtx_self ..
    have bound : read.fillBound c = true ↔
        ∃ q, x.target = some q ∧ (s.port q).bound = true ∧ x.targetMember ≠ none ∧ s.job.target = x.targetMember := by
      rw [State.fillBound_iff, read_ctx]
      refine exists_congr (fun q => ?_)
      rw [show (read.port q).bound = (s.port q).bound from State.port_left_bound s p q id (s.port p).errors]
      rfl
    have ends := State.lanesFinal_ends (s := read) (c := c) (r := r) (place := place)
      (by rw [read_ctx]; exact kind.imp_right (And.imp_right (fun nothing ⟨good, at_⟩ => nothing ⟨good, bound.1 at_⟩)))
      (by rw [read_ctx]; exact origin) request issued placed reads.up nobody reads.owed
    rw [read_ctx] at ends
    simp only [read] at ends
    rw [State.ended_setCtx (by rfl)] at ends
    have final : handle (.lanesFinal c) read = _ := ends
    have effects := Brings.ended_answered (s := s) (p := p) (id := id) (c := c) (n := (s.port p).errors) (tag := r.tag)
      (a := resultOf x.first lanes (lanes.map Lane.class) place r.count) (x.flags.or (laneCauses lanes)) reads.deferred rfl
      nobody.2 idle
    have answered : result = .next (done.withResponse r.tag (resultOf x.first lanes (lanes.map Lane.class) place r.count)) := by
      have noCommit := (State.Rests.left (reads.toRests.ended c (x.flags.or (laneCauses lanes))) reads.noCommit p id
        (s.port p).errors).2
      have all := reads.exec_outcome (normalise_good_read isRead length p id) (by simp)
        (State.ReadsFor.outcome_last (id := id) reading last data) (.cons final effects) (by decide)
        ((reads.toRests.left_ended reads.noCommit c _ p id _).withResponse noCommit _ _)
      rwa [State.transmit_withResponse] at all
    have lost_iff (b : Nat) : lostMask (lanes.map Lane.class) (place.offset - x.first + b) = 0 ↔
        ∀ k, k < 8 → ¬ lost b k := by
      rw [lostMask_eq_zero, Nat.mul_add]
    refine ⟨fun none_ => ?_, fun b inside some_ before => ⟨lostMask (lanes.map Lane.class) (place.offset - x.first + b),
      fun k small => ?_, ?_⟩⟩
    · rw [answered, resultOf_good (fun b inside => (lost_iff b).2 (fun k small => none_ b k inside small))]
    · rw [getLsbD_lostMask _ _ small, List.getElem?_map, Nat.mul_add]
      show _ ↔ ∃ l, lanes[8 * (place.offset - x.first) + 8 * b + k]? = some l ∧ l.class ≠ .good
      cases lanes[8 * (place.offset - x.first) + 8 * b + k]? <;> simp
    · obtain ⟨k, small, here⟩ := some_
      rw [answered, resultOf_media inside (fun zero => (lost_iff b).1 zero k small here)
        (fun a below => (lost_iff a).2 (fun k small => before a k below small))]
  · intro s p id e c w place m data reads tx isRead length degraded reading last origin idle table request placed port ended
    let x := s.ctx c
    let lanes := lanesGood x.lanes data
    let y : Context := { x with
      lanes, outstanding := [], classes := lanes.map Lane.class, flags := x.flags.or (laneCauses lanes) }
    let gone := s.gone p id
    let done_ := gone.ended c y.flags
    have outcome := State.ReadsFor.outcome_last (id := id) reading last data
    have final : handle (.lanesFinal c) (gone.setCtx c { x with lanes, outstanding := [] }) = (gone.setCtx c y).endNormally c :=
      State.lanesFinal_unasked degraded origin
    have y_ctx : (gone.setCtx c y).ctx c = y := State.ctx_setCtx_self ..
    have ends : (gone.setCtx c y).ended c ((gone.setCtx c y).ctx c).flags = done_ := by
      rw [y_ctx]
      exact State.ended_setCtx (by rfl) _
    have frame (k : PortId) : (gone.port k).health = (s.port k).health ∧ (gone.port k).role = (s.port k).role :=
      ⟨s.health_left p k id _, s.role_left p k id _⟩
    have done_port : done_.portOf w.slot = some m := (State.portOf_congr (fun k => (frame k).2) _).trans port
    have done_route (op : ReqOp) : done_.routeOf w.slot m op place.stripe = s.routeOf w.slot m op place.stripe :=
      State.routeOf_congr (s := s) (fun k => (frame k).1) (fun k => (frame k).2) rfl rfl ..
    have done_rests : done_.Rests := State.Rests.ended (s := gone)
      (reads.toRests.of_same reads.timer reads.commit rfl rfl rfl rfl) c _
    refine ⟨fun q held empty waits isWrite route online room apart => ?_, fun mask held list waits isReadOp route apart few taken_ late => ?_⟩
    · intro write released
      let freed : State := { done_ with slt := { done_.slt with held := [] } }
      let back := freed.setEntry w.tag (InFlight.toRouting .held)
      let v : InFlight := { w with state := .routing, forward := none, ctx := none }
      let sent (t : State) : State := t.setEntry w.tag (fun z => { z with
        state := .issued, forward := some (q, .write), ctx := none, data := [] })
      have released_ : handle (.lanesFinal c) (gone.setCtx c { x with lanes, outstanding := [] }) =
          ([.route w.tag false, .arbiter, .examine], back) := by
        rw [final, State.endNormally_releases (s := gone.setCtx c y) held reads.owed, ends]
      have entry : back.entry? w.tag = some v := by
        rw [State.entry?_setEntry (InFlight.toRouting_tag .held), show freed.entry? w.tag = some w from request,
          Option.map_some, if_pos rfl, InFlight.toRouting, if_pos waits]
      have unlocked : back.lockHolds m v.op place.stripe = false := by
        have free : back.locked place.stripe = false := State.ended_unlocked (s := gone) (flags := y.flags) apart
        unfold State.lockHolds
        rw [free, Bool.false_and]
      have op : v.driveOp = write := by simp only [InFlight.driveOp, v, isWrite, write]; rfl
      have routed : handle (.route w.tag false) back = ([], sent (freed.enlist q write).countForeground) := by
        have forwards := State.forwardTo_admitted (s := back) (x := v) (q := q) ((s.health_left p q id _).trans online)
          (State.hasRoom_left reads.entry room _)
        have decided : back.decideRoute v place false = back.forwardTo v q := by
          have at_ : back.portOf v.slot = some m := done_port
          have row : back.routeOf v.slot m v.op place.stripe = .forward q := by
            rw [← route, ← isWrite]
            exact done_route w.op
          simp only [State.decideRoute, at_, unlocked, Bool.false_eq_true, if_false, row]
        rw [State.route_decides (s := back) (x := v) done_rests.owed entry rfl placed, decided, forwards, op,
          State.enlist_setEntry]
        refine congrArg (Prod.mk []) ?_
        have composed := State.setEntry_setEntry (f := fun z => { z with state := .issued, forward := some (q, .write), data := [] })
          (InFlight.toRouting_tag .held) (fun _ => rfl) (freed.enlist q write).countForeground w.tag
        refine composed.trans (State.setEntry_at (x := w) ?_ ?_ ?_)
        · rw [State.enlist_eq]; exact table.tags
        · rw [State.enlist_eq]; exact request
        · simp only [InFlight.toRouting, waits, if_true]
      let u := sent (freed.enlist q write).countForeground
      obtain ⟨rows, ports, pacing, u_eq⟩ : ∃ rows ports pacing, u = { freed with table := rows, ports, pacing } := by
        simp only [u, sent, State.enlist_eq]
        exact ⟨_, _, _, rfl⟩
      have quiet : Brings 2 [.arbiter, .examine] u u := by
        rw [u_eq]
        exact .afterFree empty (State.noLaunch_of_not_active idle)
      have departs := Brings.departed (p := p) (t := u) (by
        show ((freed.enlist q write).port p).deferred = []
        rw [State.enlist_deferred]
        show ((s.gone p id).port p).deferred = []
        rw [State.gone_port]
        exact reads.deferred)
      have rests : (u.issue p).Rests := by
        rw [u_eq]
        exact State.Rests.issue (done_rests.of_same (u := { freed with table := rows, ports, pacing }) done_rests.timer
          (State.commitReady_of_not_committing reads.noCommit) rfl rfl rfl rfl) p
      have still : (u.issue p).txRests := by
        rw [u_eq, State.issue_eq]
        exact tx.of_same rfl rfl rfl
      rw [reads.exec_outcome (normalise_good_read isRead length p id) (by simp) outcome
        (.cons released_ (.step routed (quiet.append departs))) (by decide) rests, State.transmit_of_rests _ still,
        State.issue_setEntry]
      rfl
    · intro first n some_ lock taken offered
      let back : State := ({ done_ with engine := { done_.engine with waitList := [] } } : State).setEntry w.tag
        (InFlight.toRouting .waiting)
      let v : InFlight := { w with state := .routing, forward := none, ctx := none }
      have ended_ : handle (.lanesFinal c) (gone.setCtx c { x with lanes, outstanding := [] }) =
          ([.arbiter, .examine], done_) := by
        rw [final, State.endNormally_unheld (s := gone.setCtx c y) held reads.owed, ends]
      have done_ctx (k : CtxId) : done_.ctx k = if c = k then .blank (s.ctx c).serial else s.ctx k :=
        State.ctx_setCtx (s := s) c k _
      have available : done_.foregroundCtx = some c := by
        have fewer : done_.foregroundInUse < gone.foregroundInUse :=
          State.foregroundInUse_ended (s := gone) (c := c) (by show x.state ≠ _; rw [show x.state = .reading from reading]; simp)
            (by show x.kind ≠ _; rw [show x.kind = .degraded from degraded]; simp)
        have same : gone.foregroundInUse = s.foregroundInUse := rfl
        refine State.foregroundCtx_lowest (by omega) (by rw [done_ctx, if_pos rfl]; rfl) (fun k below => ?_)
        rw [done_ctx, if_neg (by rintro rfl; exact lt_irrefl _ below)]
        exact taken_ k
      have arbitrated : handle .arbiter done_ = ([.route w.tag true, .arbiter], back) := by
        have list_ : done_.engine.waitList = [w.tag] := list
        simp only [handle, State.arbitrate, list_, available, show done_.engine.owed = none from reads.owed,
          Option.isSome_none, Bool.false_eq_true, if_false, back]
      have entry : back.entry? w.tag = some v := by
        rw [State.entry?_setEntry (InFlight.toRouting_tag .waiting),
          show ({ done_ with engine := { done_.engine with waitList := [] } } : State).entry? w.tag = some w from request,
          Option.map_some, if_pos rfl, InFlight.toRouting, if_pos waits]
      have free : back.locked place.stripe = false := State.ended_unlocked (s := gone) (flags := y.flags) apart
      let asking : State := { (back.setCtx c taken).setEntry w.tag (fun z => { z with state := .issued, ctx := some c }) with
        engine := { (back.setCtx c taken).engine with late := s.engine.late.tail } }
      let u : State := { asking with slt := { asking.slt with locks := asking.slt.locks ++ [lock] } }
      have asks : asking.lockRequest c = ([], u) := by
        have ctx : asking.ctx c = taken := State.ctx_setCtx_self ..
        have writes : asking.foregroundWrites first (s.lastBlock place.stripe) = n :=
          State.foregroundWrites_gone reads.entry reads.notForeground ..
        have asked : asking.askedLock c place.stripe = lock := by
          have count : asking.foregroundWrites (asking.firstBlock place.stripe) (asking.lastBlock place.stripe) = n := writes
          have pending : (n == 0) = false := by simpa using Nat.pos_iff_ne_zero.1 some_
          simp only [State.askedLock, count, pending, lock]
          rfl
        have request_ := State.lockRequest_free (s := asking) (c := c) (by rw [ctx]; exact free)
        rw [ctx, show taken.stripe = place.stripe from rfl, asked,
          show asking.foregroundWrites (asking.firstBlock place.stripe) (asking.lastBlock place.stripe) = n from writes,
          if_neg (by omega)] at request_
        exact request_
      have routed : handle (.route w.tag true) back = ([], u) := by
        have at_ : back.portOf v.slot = some m := done_port
        have row : back.routeOf v.slot m v.op place.stripe = .reconstruct .degraded mask none none := by
          rw [← route, ← isReadOp]
          exact done_route w.op
        have unheld : back.lockHolds m v.op place.stripe = false := by
          unfold State.lockHolds
          rw [free, Bool.false_and]
        have now_ : back.engine.putsOff = false := by
          rw [Engine.putsOff, Bool.eq_false_iff, ne_eq, beq_iff_eq]
          exact late
        have record_ : back.requestCtx c v place .degraded mask none none = taken := by
          rw [State.requestCtx_eq, show back.ctx c = .blank (s.ctx c).serial from (done_ctx c).trans (if_pos rfl)]
          rfl
        rw [State.route_decides (s := back) (x := v) done_rests.owed entry rfl placed]
        simp only [State.decideRoute, at_, unheld, Bool.false_eq_true, if_false, row]
        rw [State.reconstruct_takes (s := back) (.inl rfl) available now_, record_]
        exact asks
      have quiet : Brings 2 [.arbiter, .examine] u u := .afterFree rfl (State.noLaunch_of_not_active idle)
      have departs := Brings.departed (p := p) (t := u) (by
        show ((s.gone p id).port p).deferred = []
        rw [State.gone_port]
        exact reads.deferred)
      have rests : (u.issue p).Rests := by
        have base := done_rests.setCtx c (x := taken) rfl
        exact State.Rests.issue (base.of_same (u := u) base.timer
          (State.commitReady_of_not_committing reads.noCommit) rfl rfl rfl rfl) p
      have still : (u.issue p).txRests := by
        rw [State.issue_eq]
        exact tx.of_same rfl rfl rfl
      have final_ : u.issue p = ((offered.setCtx c taken).left p id (s.port p).errors).setEntry w.tag
          (fun z => { z with state := .issued, forward := none, ctx := some c }) := by
        let v_ : State := { done_ with
          slt := { done_.slt with locks := done_.slt.locks ++ [lock] }
          engine := { done_.engine with waitList := [], late := s.engine.late.tail } }
        have composed := State.setEntry_setEntry (f := fun z => { z with state := .issued, ctx := some c })
          (InFlight.toRouting_tag .waiting) (fun _ => rfl) (v_.setCtx c taken) w.tag
        have changed : u = (v_.setCtx c taken).setEntry w.tag (fun z => { z with
            state := .issued, forward := none, ctx := some c }) :=
          composed.trans (State.setEntry_at (s := v_.setCtx c taken) (x := w) table.tags request
            (by simp only [InFlight.toRouting, waits, if_true]))
        rw [changed, State.issue_setEntry]
        rfl
      rw [reads.exec_outcome (normalise_good_read isRead length p id) (by simp) outcome
        (.cons ended_ (.cons arbitrated (.step routed (quiet.append departs)))) (by decide) rests,
        State.transmit_of_rests _ still, final_]

end

section
/-! SUPPORT. The end of a SWEEP context: its report, the retirement and its release (R90, R109), and STOP_REBUILD (R103). -/
namespace Sys2Proof.Machine

variable {s : State} {p : PortId} {id : Nat} {e : ListEntry} {c : CtxId}

/-! ## What a report and a notice do not read -/

/-- The state with other contexts, locks and ports. -/
def State.around (s : State) (engine : Engine) (slt : LockTable) (ports : Vector Port 10) : State := { s with engine, slt, ports }

variable (engine : Engine) (slt : LockTable) (ports : Vector Port 10)

theorem State.around_notify (n : Notice) :
    (s.around engine slt ports).notify n = (s.notify n).around engine slt ports := by
  rw [State.notify_congr (s := s) (t := s.around engine slt ports) rfl rfl rfl]
  conv_rhs => rw [State.notify_congr (s := s) (t := s) rfl rfl rfl]
  rfl

theorem State.around_jobTo (st : JobState) (cause : JobCause) :
    (s.around engine slt ports).jobTo st cause = (s.jobTo st cause).around engine slt ports := by
  by_cases same : s.job.state = st
  · simp only [State.jobTo]
    rw [if_pos same, if_pos (show (s.around engine slt ports).job.state = st from same)]
    rfl
  · rw [State.jobTo_of_ne same, State.jobTo_of_ne (s := s.around engine slt ports) same, ← State.around_notify]
    rfl

theorem State.around_appendLost (l : LostEntry) :
    (s.around engine slt ports).appendLost l = (s.appendLost l).around engine slt ports := by
  let added : State := { s with lost := { entries := s.lost.entries ++ [l], reservations := s.lost.reservations - 1 } }
  let told (t : State) : State := t.notify (.lostAdded l.stripe l.items.length)
  show (if added.lost.entries.length = Config.lostBound then
      if s.job.state = .active then ((told (added.around engine slt ports)).notify .lostFull).jobTo .paused .lostFull
      else (told (added.around engine slt ports)).notify .lostFull
    else told (added.around engine slt ports)) =
    (if added.lost.entries.length = Config.lostBound then
      if s.job.state = .active then ((told added).notify .lostFull).jobTo .paused .lostFull
      else (told added).notify .lostFull
    else told added : State).around engine slt ports
  simp only [told, State.around_notify, State.around_jobTo]
  split
  · split <;> rfl
  · rfl

theorem State.txRests.jobTo (tx : s.txRests) (up : s.channel.up = true) (st : JobState) (cause : JobCause) :
    (s.jobTo st cause).txRests := by
  rcases s.jobTo_cases st cause with ⟨-, e⟩ | ⟨-, e⟩ <;> rw [e]
  · exact tx.of_same rfl rfl rfl
  · exact State.txRests.notify (s := { s with job := { s.job with state := st, cause } }) (tx.of_same rfl rfl rfl) up _

/-- A transmitter at rest is so still once a lost entry is reported (R59, R138). -/
theorem State.txRests.appendLost (tx : s.txRests) (up : s.channel.up = true) (l : LostEntry) : (s.appendLost l).txRests := by
  let added : State := { s with lost := { entries := s.lost.entries ++ [l], reservations := s.lost.reservations - 1 } }
  have told : (added.notify (.lostAdded l.stripe l.items.length)).txRests :=
    State.txRests.notify (s := added) (tx.of_same rfl rfl rfl) up _
  have told_up : (added.notify (.lostAdded l.stripe l.items.length)).channel.up = true := by simpa using up
  have full : ((added.notify (.lostAdded l.stripe l.items.length)).notify .lostFull).txRests := told.notify told_up _
  unfold State.appendLost
  dsimp only
  split
  · split
    · exact full.jobTo (by simpa using told_up) _ _
    · exact full
  · exact told

/-! ## Retirements (R109) -/

/-- The retirement that leaves entries in the window, no milestone due at its head (R109, R146). -/
theorem State.retire_head {t u : Nat} {d : Bool} {rest : List WindowEntry}
    (head : retireWindow s.job.window t = { stripe := u, done := d } :: rest)
    (later : ∀ m ∈ s.notices.milestones, u < m.target) : s.retire t =
      { s with job := { s.job with
        window := { stripe := u, done := d } :: rest, w := u, ahead := s.job.ahead.filter (fun k => u ≤ k) } } := by
  let v : State := { s with job := { s.job with
    window := { stripe := u, done := d } :: rest, w := u, ahead := s.job.ahead.filter (fun k => u ≤ k) } }
  have advanced : s.retired t = v := by
    rw [State.retired, head]
    show (if s.job.w < u then v.fireMilestones u else v) = v
    rw [State.fireMilestones_none (s := v) later, ite_self]
  rcases s.retire_cases t with ⟨e, -⟩ | ⟨none_, -⟩ | ⟨none_, -⟩
  · rw [e, advanced]
  all_goals rw [head] at none_; cases none_

/-- The retirement that empties the window of a stopping job short of StripeCount, no milestone due at N: it stops and
answers the awaiting STOP (R103, R109). -/
theorem State.retire_stops {t : Nat} (empty : retireWindow s.job.window t = []) (stopping : s.job.state = .stopping)
    (short : s.job.n < s.stripeCount) (later : ∀ m ∈ s.notices.milestones, s.job.n < m.target) : s.retire t =
      (({ s with job := { s.job with
        window := [], w := s.job.n, ahead := s.job.ahead.filter (fun k => s.job.n ≤ k)
        state := .stopped, cause := .command } } : State).notify (.jobState .stopped .command s.job.n)).answerStop .good := by
  let v : State := { s with job := { s.job with
    window := [], w := s.job.n, ahead := s.job.ahead.filter (fun k => s.job.n ≤ k) } }
  have advanced : s.retired t = v := by
    rw [State.retired, empty]
    show (if s.job.w < s.job.n then v.fireMilestones s.job.n else v) = v
    rw [State.fireMilestones_none (s := v) later, ite_self]
  rcases s.retire_cases t with ⟨-, window⟩ | ⟨-, full, -⟩ | ⟨-, -, e⟩
  · exact absurd empty (window stopping)
  · omega
  · rw [e, advanced, State.jobTo_of_ne (s := v) (by show s.job.state ≠ _; rw [stopping]; simp)]

/-! ## The end of a SWEEP context (R90) -/

/-- The last operation of a SWEEP context on its spare completes GOOD (R87, R88, R90). -/
theorem State.ctxOutcome_sweepEnd (sweep : (s.ctx c).kind = .sweep)
    (ends : (s.ctx c).state = .writing ∧ (s.ctx c).classes.any LaneClass.lost = false ∨ (s.ctx c).state = .marking)
    (p : PortId) (data : List Sector) : s.ctxOutcome c (s.ctx c).serial p (.good data) = s.sweepEnd c := by
  rcases ends with ⟨writing, good⟩ | marking
  · rw [State.ctxOutcome_writeGood writing, State.writeGood, if_pos sweep, good]
    rfl
  · simp only [State.ctxOutcome, ne_eq, not_true, if_false, marking]

/-- A SWEEP context's end at the window entry it works for (R90). -/
theorem State.sweepEnd_window {t : Nat} (origin : (s.ctx c).origin = .window t) : s.sweepEnd c =
    ((if (s.reported c).job.retires t then [.examine] else []) ++ [.sweepFree c (s.ctx c).serial], (s.reported c).retire t) := by
  simp only [State.sweepEnd, origin]
  rfl

/-- A lost entry depends on its context, the job and the ports' roles alone (R136). -/
theorem State.lostEntry_congr {t : State} (ctx : t.ctx c = s.ctx c) (job : t.job = s.job)
    (role : ∀ p, (t.port p).role = (s.port p).role) : t.lostEntry c = s.lostEntry c := by
  simp only [State.lostEntry, State.sourceMembers, Port.memberIndex, ctx, job, role]

/-- A context that has reported its end and goes FREE has ended normally (R69, R90, R94). -/
theorem State.freed_left {y : Context} (serial : y.serial = (s.ctx c).serial) (flags : Causes) :
    ((s.around { s.engine with ctxs := s.engine.ctxs.set c y, sticky := s.engine.sticky.or flags } s.slt
      (s.gone p id).ports).freed c).issue p = (s.ended c flags).left p id (s.port p).errors := by
  have blank : (s.engine.ctxs.set c y).set c (.blank (s.ctx c).serial) = s.engine.ctxs.set c (.blank (s.ctx c).serial) := by
    simp
  have ctx : (s.around { s.engine with ctxs := s.engine.ctxs.set c y, sticky := s.engine.sticky.or flags } s.slt
      (s.gone p id).ports).ctx c = y := State.ctx_setCtx_self (s := s) c y
  have freed : (s.around { s.engine with ctxs := s.engine.ctxs.set c y, sticky := s.engine.sticky.or flags } s.slt
      (s.gone p id).ports).freed c = (s.ended c flags).setPort p { (s.port p).without id with errors := (s.port p).errors } := by
    rw [State.freed, ctx, serial]
    show ({ s with engine := { s.engine with ctxs := (s.engine.ctxs.set c y).set c (.blank (s.ctx c).serial), sticky := _ }
                   slt := _, ports := _ } : State) = _
    rw [blank]
    rfl
  rw [freed]
  rfl

/-- A context reported done goes FREE, nobody waiting for it, and the port's event comes to its end (R20, R69, R90). -/
theorem Brings.sweep_freed {t : State} {x : Context} (ctx : t.ctx c = x) (used : x.state ≠ .free) (origin : x.origin = .noRequest)
    (nobody : t.nobodyWaits c) (owed : t.engine.owed = none) (quiet : t.noLaunch) (deferred : (t.port p).deferred = [])
    (retires : Bool) : ∃ k ≤ 5, Brings k (((if retires then [.examine] else []) ++ [.sweepFree c x.serial]) ++
      [.afterDeparture p]) t ((t.freed c).issue p) := by
  have freed : handle (.sweepFree c x.serial) t = ([.arbiter, .examine], t.freed c) := by
    have due : (t.ctx c).state ≠ .free ∧ (t.ctx c).serial = x.serial ∧ (t.ctx c).origin = .noRequest := by
      rw [ctx]
      exact ⟨used, rfl, origin⟩
    simp only [handle, State.sweepFree, if_pos due, State.heldBy_alone nobody.1, State.freeCtxs_alone nobody.1 owed]
    rfl
  have after : Brings 2 [.arbiter, .examine] (t.freed c) (t.freed c) := .afterFree nobody.2 quiet
  have last : Brings 4 ([.sweepFree c x.serial] ++ [.afterDeparture p]) t ((t.freed c).issue p) :=
    .cons freed (after.append (.departed deferred))
  cases retires with
  | false => exact ⟨4, by omega, last⟩
  | true => exact ⟨5, by omega, .step quiet.examine last⟩

end Sys2Proof.Machine

open Sys2Proof Sys2Proof.Machine

/-- Settles O32: the report, the retirement with entries left, and the context's release (R90, R109). -/
theorem sweepStripeRetired : Obligations.SweepStripeRetired := by
  intro s p id e c data u d rest reads tx notRead sweep origin nobody credit cursor later x lost head listed job
    ends
  let y : Context := { x with origin := .noRequest }
  let gone := s.gone p id
  let engine : Engine := { s.engine with sticky := s.engine.sticky.or x.flags }
  obtain ⟨state, cause, tx_, queue, lost_, left, spec, moves⟩ : ∃ state cause tx queue lost_ left, listed = { s with
        lost := left, job := { s.job with state, cause }, channel := { s.channel with tx }
        notices := { s.notices with queue, lost := lost_ } } ∧
      (state = s.job.state ∨ s.job.state = .active ∧ state = .paused) := by
    by_cases some_ : lost = true
    · obtain ⟨state, cause, tx, queue, lost_, e, h⟩ := s.appendLost_spec (s.lostEntry c)
      exact ⟨state, cause, tx, queue, lost_, _, (if_pos some_).trans e, h⟩
    · exact ⟨_, _, _, _, _, _, if_neg some_, .inl rfl⟩
  have told : gone.reported c = listed.around { engine with ctxs := s.engine.ctxs.set c y } s.slt gone.ports := by
    let noted : State := { gone with engine }
    have entry : noted.lostEntry c = s.lostEntry c := State.lostEntry_congr rfl rfl (fun q => s.role_left p q id _)
    have written : (if lost then noted.appendLost (noted.lostEntry c) else noted.releaseReservation) =
        listed.around engine s.slt gone.ports := by
      by_cases some_ : lost = true
      · rw [if_pos some_, entry, show listed = s.appendLost (s.lostEntry c) from if_pos some_, ← State.around_appendLost]
        rfl
      · rw [if_neg some_, show listed = { s with lost := { s.lost with reservations := s.lost.reservations - 1 } } from
          if_neg some_]
        rfl
    have engine_ : listed.engine = s.engine := by rw [spec]
    exact congrArg (State.setCtx · c y) written
  let t : State := { listed with job }
  let retired : State := t.around { engine with ctxs := s.engine.ctxs.set c y } s.slt gone.ports
  have outcome : gone.ctxOutcome c (s.ctx c).serial p (.good []) =
      ((if s.job.retires x.stripe then [.examine] else []) ++ [.sweepFree c y.serial], retired) := by
    have window : listed.job.window = s.job.window := by rw [spec]
    have ahead : listed.job.ahead = s.job.ahead := by rw [spec]
    have milestones : listed.notices.milestones = s.notices.milestones := by rw [spec]
    have shifts := State.retire_head (s := gone.reported c) (t := x.stripe) (u := u) (d := d) (rest := rest)
      (by rw [told]; show retireWindow listed.job.window _ = _; rw [window]; exact head)
      (by rw [told]; show ∀ m ∈ listed.notices.milestones, _; rw [milestones]; exact later)
    refine (State.ctxOutcome_sweepEnd (s := gone) sweep ends.symm.symm p []).trans ?_
    rw [State.sweepEnd_window (s := gone) origin, shifts, told]
    have same : (listed.around { engine with ctxs := s.engine.ctxs.set c y } s.slt gone.ports).job.retires x.stripe =
        s.job.retires x.stripe := by
      show listed.job.retires _ = _
      rw [Job.retires, Job.retires, window]
    rw [same]
    refine congrArg (Prod.mk _) ?_
    show ({ listed with job := { listed.job with
      window := _, w := u, ahead := listed.job.ahead.filter (fun k => u ≤ k) } } : State).around _ _ _ = _
    rw [ahead]
    rfl
  have ctx : retired.ctx c = y := State.ctx_setCtx_self (s := s) c y
  have used : y.state ≠ .free := by
    show x.state ≠ _
    rcases ends with ⟨writing, -⟩ | marking
    · rw [writing]; simp
    · rw [marking]; simp
  have quiet : retired.noLaunch := by
    intro active
    obtain ⟨credit_, n_, width_⟩ : retired.pacing = s.pacing ∧ retired.job.n = s.job.n ∧ retired.width = s.width := by
      simp only [retired, t, State.around, job, State.width]
      rw [spec]
      exact ⟨rfl, rfl, rfl⟩
    refine ⟨by rw [credit_, width_]; exact credit, ?_, .inr (by simp [retired, t, State.around, job])⟩
    rw [n_]
    exact fun mem => cursor (List.mem_of_mem_filter mem)
  have deferred : (retired.port p).deferred = [] := by
    show (gone.port p).deferred = []
    rw [State.gone_port]
    exact reads.deferred
  obtain ⟨k, few, effects⟩ := Brings.sweep_freed (t := retired) (x := y) ctx used rfl nobody reads.owed quiet deferred
    (s.job.retires x.stripe)
  have final : (retired.freed c).issue p = (t.ended c x.flags).left p id (s.port p).errors := by
    obtain ⟨engine_, slt_, ports_⟩ : t.engine = s.engine ∧ t.slt = s.slt ∧ t.ports = s.ports := by
      simp only [t]
      rw [spec]
      exact ⟨rfl, rfl, rfl⟩
    have port (q : PortId) : t.port q = s.port q := State.port_congr ports_ q
    have gone_ : (t.gone p id).ports = gone.ports := by
      show t.ports.set p _ = s.ports.set p _
      rw [ports_, port]
    have freed := State.freed_left (s := t) (p := p) (id := id) (c := c) (y := y)
      (show (s.ctx c).serial = (t.ctx c).serial by rw [State.ctx_congr (s := s) (t := t) (by rw [engine_]) c]) x.flags
    rw [gone_, engine_, slt_, port] at freed
    exact freed
  have rests : t.Rests := by
    have timer : t.settleDue = false := by
      rcases moves with same | ⟨-, paused⟩
      · have as_before : t.settleDue = s.settleDue := by simp only [State.settleDue, t, job, spec, same]
        rw [as_before]
        exact reads.timer
      · exact State.settleDue_of_not_armed (by simp only [t, job]; rw [spec, paused]; simp)
    have noCommit : t.committing = false := by
      show listed.committing = false
      rw [spec]
      exact reads.noCommit
    refine reads.toRests.of_same timer (State.commitReady_of_not_committing noCommit) ?_ ?_ ?_ ?_
    all_goals simp only [t]; rw [spec]
  have noCommit : t.committing = false := by
    show listed.committing = false
    rw [spec]
    exact reads.noCommit
  have still : t.txRests := by
    have listed_tx : listed.txRests := by
      by_cases some_ : lost = true
      · rw [show listed = s.appendLost (s.lostEntry c) from if_pos some_]
        exact tx.appendLost reads.up _
      · rw [show listed = { s with lost := { s.lost with reservations := s.lost.reservations - 1 } } from if_neg some_]
        exact tx.of_same rfl rfl rfl
    exact listed_tx.of_same rfl rfl rfl
  rw [final] at effects
  rw [reads.exec_outcome (normalise_good_other notRead p id data) (by simp) outcome effects (by
      show k + 1 < 65536
      omega) (rests.left_ended noCommit ..), State.transmit_of_rests _ (still.left_ended c x.flags p id _)]

/-- Settles O35: the command in each job state, and the retirement that answers it (R103). -/
theorem stopRebuild : Obligations.StopRebuild := by
  refine ⟨fun s h serves => ?_, fun s p id e c tag data reads isWrite sweep writing origin good nobody request window stopping
    short awaiting later => ?_⟩
  · intro result goes
    have receives : exec (.stopRebuild h []) s = receive (.manage h [0x0A]) s := rfl
    have code : (s.taking h).takeCommand h.tag.toNat [0x0A] = (s.taking h).takeStop h.tag.toNat [] := rfl
    refine ⟨fun active window => ?_, fun runs window => ?_, fun stops => ?_, fun other => ?_⟩
    · let u := goes .stopping (some h.tag.toNat)
      have started : u.Serves h := serves.of_same (State.settleDue_of_not_armed (by simp [u, goes])) (by simp [u, goes])
        (by simp [u, goes]) (by simp [u, goes]) (by simp [u, goes]) (by simp [u, goes]) (by simp [u, goes]) (by simp [u, goes])
        (by simp [u, goes])
      have taken : (s.taking h).takeStop h.tag.toNat [] = ([.nextCommand], u.taking h) := by
        have state : (s.taking h).job.state = .active := active
        have open_ : (s.taking h).job.window ≠ [] := window
        let w : State := { s with job := { s.job with awaiting := some h.tag.toNat } }
        have stops : (s.taking h).takeStop h.tag.toNat [] = ([.nextCommand], (w.taking h).jobTo .stopping .command) := by
          simp only [State.takeStop, ne_eq, not_true, if_false, state, if_neg open_]
          rw [← active]
          rfl
        rw [stops, State.taking_jobTo, State.jobTo_of_ne (s := w) (by show s.job.state ≠ _; rw [active]; simp)]
      let v := u.addEntry { newEntry .manage h [] with state := .issued }
      have next : handle .nextCommand (u.taking h) = ([], v) := by
        have none_ : (u.taking h).target.waiting = [] := started.waiting
        have target : ({ u.target with current := none, waiting := [] } : Target) = u.target := by
          rw [← started.current, ← started.waiting]
        simp only [handle, State.nextCommand, none_]
        exact congrArg (fun x : Target => (([], { v with target := x }) : List Work × State)) target
      have rests : v.Rests := started.toRests.addEntry (by simp [State.committing, started.current]) _
      refine receives.trans (receive_manage serves (by simp) ?_)
      rw [code, taken, List.cons_append, run_step (by decide) next]
      have form : ({ u with table := s.table ++ [{ newEntry .manage h [] with state := .issued }] } : State) = v :=
        congrArg (fun table => ({ u with table := table ++ [{ newEntry .manage h [] with state := .issued }] } : State))
          (show u.table = s.table by simp [u, goes]).symm
      exact (run_end (n := Config.cascadeBound - 2 - 1) (by decide) rests).trans (congrArg (fun t => some t.transmit) form.symm)
    · have other : s.job.state ≠ .stopped := by rcases runs with e | e <;> rw [e] <;> simp
      have started : (s.jobTo .stopped .command).Serves h := by
        rw [State.jobTo_of_ne other]
        refine serves.of_same (State.settleDue_of_not_armed (by simp)) ?_ ?_ ?_ ?_ ?_ ?_ ?_ ?_
        all_goals simp
      have taken : (s.taking h).takeStop h.tag.toNat [] = ((s.jobTo .stopped .command).taking h).mgmtGood h.tag.toNat := by
        have empty : (s.taking h).job.window = [] := window
        have state : (s.taking h).job.state = s.job.state := rfl
        rw [← State.taking_jobTo]
        rcases runs with e | e <;> simp only [State.takeStop, ne_eq, not_true, if_false, state, e, empty, if_true]
      have done_ := serves.done (by simp) (code.trans taken) started
      rw [State.jobTo_of_ne other] at done_
      exact receives.trans done_
    · have taken : (s.taking h).takeStop h.tag.toNat [] = (s.taking h).mgmtGood h.tag.toNat := by
        have state : (s.taking h).job.state = s.job.state := rfl
        rcases stops with e | e <;> simp only [State.takeStop, ne_eq, not_true, if_false, state, e]
      exact receives.trans (serves.done (by simp) (code.trans taken) serves)
    · have refused : (s.taking h).takeCommand h.tag.toNat [0x0A] = (s.taking h).mgmtRefuse h.tag.toNat .state := by
        rw [code]
        have state : (s.taking h).job.state = s.job.state := rfl
        rcases other with e | e | e | e <;> simp only [State.takeStop, state, e, ne_eq, not_true, if_false]
      exact receives.trans (serves.refuses (by simp) refused)
  · obtain ⟨r, found, issued⟩ := request
    let x := s.ctx c
    let y : Context := { x with origin := .noRequest }
    let gone := s.gone p id
    let engine : Engine := { s.engine with ctxs := s.engine.ctxs.set c y, sticky := s.engine.sticky.or x.flags }
    let halted (awaiting : Option Nat) : State := { s with
      lost := { s.lost with reservations := s.lost.reservations - 1 }
      job := { s.job with
        window := [], w := s.job.n, ahead := s.job.ahead.filter (fun t => s.job.n ≤ t), state := .stopped, cause := .command
        awaiting } }
    let told (awaiting : Option Nat) : State := (halted awaiting).notify (.jobState .stopped .command s.job.n)
    let t : State := (told none).withResponse tag (.plain .good)
    have told_job (awaiting : Option Nat) : (told awaiting).job = (halted awaiting).job := State.notify_job ..
    have reported : gone.reported c =
        State.around { s with lost := { s.lost with reservations := s.lost.reservations - 1 } } engine s.slt gone.ports := by
      rw [State.reported, if_neg (by show ¬ x.classes.any LaneClass.lost = true; rw [good]; simp)]
      rfl
    have stopped : (gone.reported c).retire x.stripe = t.around engine s.slt gone.ports := by
      have ends := State.retire_stops (s := gone.reported c) (t := x.stripe)
        (by rw [reported]; show retireWindow s.job.window _ = _; rw [window]; simp [retireWindow, x])
        (by rw [reported]; exact stopping) (by rw [reported]; exact short) (by rw [reported]; exact later)
      rw [reported] at ends
      have answers : ((told s.job.awaiting).around engine s.slt gone.ports).answerStop .good = t.around engine s.slt gone.ports := by
        have waits : ((told s.job.awaiting).around engine s.slt gone.ports).job.awaiting = some tag :=
          (congrArg Job.awaiting (told_job s.job.awaiting)).trans awaiting
        have quiet : ({ told s.job.awaiting with job := { (told s.job.awaiting).job with awaiting := none } } : State) = told none := by
          have moved := State.notify_congr (s := halted s.job.awaiting) (t := halted none) rfl rfl rfl
            (.jobState .stopped .command s.job.n)
          have itself := State.notify_congr (s := halted s.job.awaiting) (t := halted s.job.awaiting) rfl rfl rfl
            (.jobState .stopped .command s.job.n)
          simp only [told]
          rw [moved]
          conv_lhs => rw [itself]
        have answered : ((told none).around engine s.slt gone.ports).answer tag (.plain .good) =
            t.around engine s.slt gone.ports := by
          have up : (told none).channel.up = true := by simpa [told, halted] using reads.up
          have entry : (told none).entry? tag = some r := by
            rw [State.entry?, show (told none).table = s.table by simp [told, halted]]
            exact found
          exact State.answer_issued (s := (told none).around engine s.slt gone.ports) up entry issued _
        rw [State.answerStop_good waits, ← answered]
        exact congrArg (fun u : State => (u.around engine s.slt gone.ports).answer tag (.plain .good)) quiet
      refine (congrArg (fun u : State => u.retire x.stripe) reported).trans (ends.trans ?_)
      rw [← answers]
      refine congrArg (State.answerStop · .good) ?_
      exact State.around_notify (s := halted s.job.awaiting) engine s.slt gone.ports (.jobState .stopped .command s.job.n)
    have outcome : gone.ctxOutcome c (s.ctx c).serial p (.good []) =
        ((if (gone.reported c).job.retires x.stripe then [.examine] else []) ++ [.sweepFree c y.serial],
          t.around engine s.slt gone.ports) := by
      refine (State.ctxOutcome_sweepEnd (s := gone) sweep (.inl ⟨writing, good⟩) p []).trans ?_
      rw [State.sweepEnd_window (s := gone) origin, ← stopped]
      rfl
    have ctx : (t.around engine s.slt gone.ports).ctx c = y := State.ctx_setCtx_self (s := s) c y
    have used : y.state ≠ .free := by
      show x.state ≠ _
      rw [show x.state = .writing from writing]
      simp
    have state : t.job.state = .stopped := congrArg Job.state (told_job none)
    have quiet : (t.around engine s.slt gone.ports).noLaunch := State.noLaunch_of_not_active (by
      show t.job.state ≠ _
      rw [state]
      simp)
    have deferred : ((t.around engine s.slt gone.ports).port p).deferred = [] := by
      show (gone.port p).deferred = []
      rw [State.gone_port]
      exact reads.deferred
    obtain ⟨k, few, effects⟩ := Brings.sweep_freed (p := p) (t := t.around engine s.slt gone.ports) (x := y) ctx used rfl nobody
      reads.owed quiet deferred ((gone.reported c).job.retires x.stripe)
    have final : ((t.around engine s.slt gone.ports).freed c).issue p = (t.ended c x.flags).left p id (s.port p).errors := by
      obtain ⟨engine_, slt_, ports_⟩ : t.engine = s.engine ∧ t.slt = s.slt ∧ t.ports = s.ports := by
        simp [t, told, halted, State.withResponse]
      have port (q : PortId) : t.port q = s.port q := State.port_congr ports_ q
      have gone_ : (t.gone p id).ports = gone.ports := by
        show t.ports.set p _ = s.ports.set p _
        rw [ports_, port]
      have freed := State.freed_left (s := t) (p := p) (id := id) (c := c) (y := y)
        (show (s.ctx c).serial = (t.ctx c).serial by rw [State.ctx_congr (s := s) (t := t) (by rw [engine_]) c]) x.flags
      rw [gone_, engine_, slt_, port] at freed
      exact freed
    have noCommit : (told none).committing = false := by
      rw [State.committing, show (told none).target = s.target by simp [told, halted]]
      exact reads.noCommit
    have rests : t.Rests := by
      have told_rests : (told none).Rests := reads.toRests.of_same
        (State.settleDue_of_not_armed (by rw [told_job]; simp [halted])) (State.commitReady_of_not_committing noCommit)
        (by simp [told, halted]) (by simp [told, halted]) (by simp [told, halted]) (by simp [told, halted])
      exact told_rests.withResponse noCommit _ _
    rw [final] at effects
    rw [reads.exec_outcome (normalise_good_other (by rw [isWrite]; simp) p id data) (by simp) outcome effects (by
        show k + 1 < 65536
        omega) (rests.left_ended noCommit ..), State.transmit_of_rests _ (fun idle => ?_)]
    exact absurd idle (by rw [State.left, State.issue_eq]; exact Transmitter.busy_ne_idle _)

end

section
/-! SUPPORT. The examination at a period end: the cursor over the ahead set, and a launch (R105, R106, R107). -/
namespace Sys2Proof.Machine

variable {s : State} {c : CtxId}

/-- The cursor passes a stripe of the ahead set, and W with it over an empty window (R106). -/
theorem State.examine_passes (active : s.job.state = .active) (below : s.job.n < s.stripeCount)
    (ahead : s.job.ahead = [s.job.n]) (window : s.job.window = [])
    (later : ∀ m ∈ s.notices.milestones, s.job.n + 1 < m.target) : s.examine = ([.examine],
      { s with job := { s.job with n := s.job.n + 1, w := s.job.n + 1, ahead := [] } }) := by
  let v : State := { s with job := { s.job with n := s.job.n + 1, w := s.job.n + 1, ahead := [] } }
  have member : s.job.n ∈ s.job.ahead := by rw [ahead]; exact List.mem_singleton_self _
  have kept : s.job.ahead.filter (fun t => s.job.n + 1 ≤ t) = [] := by simp [ahead]
  have skips : s.skipCursor = v := by
    rw [State.skipCursor]
    dsimp only
    rw [if_pos window, State.advanceW]
    dsimp only
    rw [kept, State.fireMilestones_none (by exact later), ite_self]
  rw [State.examine, if_neg (by simp [active]), if_pos ⟨below, member⟩, skips]

/-- A launch with its lock request (R105, R107). -/
theorem State.examine_launches (active : s.job.state = .active) (ahead : s.job.n ∉ s.job.ahead) (below : s.job.n < s.stripeCount)
    (launches : s.mayLaunch = true) (available : s.sweepCtx = some c) :
    s.examine = (((s.launch c).lockRequest c).1 ++ [.examine], ((s.launch c).lockRequest c).2) := by
  rw [State.examine, if_neg (by simp [active]), if_neg (fun passes => ahead passes.2), if_neg (fun done => by omega),
    if_pos launches, available]

/-- With SweepDepth stripes in the window, the next one waits (R105). -/
theorem State.examine_waits (ahead : s.job.n ∉ s.job.ahead) (window : s.job.window ≠ [])
    (full : s.target.policy.sweepDepth ≤ s.job.window.length) : s.examine = ([], s) := by
  have stays : s.mayLaunch = false := by simp [State.mayLaunch, full]
  rw [State.examine]
  split
  · rfl
  · rw [if_neg (fun passes => ahead passes.2), if_neg (fun done => window done.2), stays]
    rfl

/-- The state at a context's reading differs from the one before it by its locks, contexts, ports and foreground count
(R82). -/
theorem State.reading_job (s : State) (c : CtxId) (base : Nat) :
    (s.reading c base).job = s.job ∧ (s.reading c base).target = s.target := by
  obtain ⟨locks, ports, pacing, frame⟩ := s.reading_frame c base
  rw [frame]
  exact ⟨rfl, rfl⟩

end Sys2Proof.Machine

open Sys2Proof Sys2Proof.Machine

/-- Settles O40: one examination passes the ahead stripe, the other launches and asks for its lock (R105, R106, R107). -/
theorem periodEndLaunchesSweep : Obligations.PeriodEndLaunchesSweep := by
  refine ⟨fun s rests active window ahead le below later => ?_, fun s c t rests active window ahead target below depth
    room unlocked empty free lowest lone => ?_⟩
  · intro u credit
    let v : State := { u with job := { s.job with n := s.job.n + 1, w := s.job.n + 1, ahead := [] } }
    have passes : handle .examine u = ([.examine], v) :=
      State.examine_passes (s := u) active (show s.job.n < s.stripeCount by omega) ahead window later
    have quiet : v.noLaunch := fun _ => ⟨credit, List.not_mem_nil, .inl (show s.job.n + 1 ≠ s.stripeCount by omega)⟩
    have timer : v.settleDue = false := State.settleDue_of_not_armed (by show s.job.state ≠ _; rw [active]; simp)
    have effects : Brings 2 [.examine] u v := .cons passes quiet.brings
    exact effects.cascade rests.owed (by decide) (rests.of_same timer rests.commit rfl rfl rfl rfl)
  · intro u credit first last writes fresh taken launched
    let lock : Lock := { ctx := c, stripe := s.job.n, first, last, granted := writes == 0, drain := writes }
    let begun : State := { launched with slt := s.slt }
    have launch : u.launch c = begun := by
      have window_ : u.job.window ++ [{ stripe := u.job.n, done := false }] = [{ stripe := s.job.n, done := false }] := by
        show s.job.window ++ _ = _
        rw [window]
        rfl
      have target_ : u.job.target.toList = [t] := by
        show s.job.target.toList = _
        rw [target]
        rfl
      rw [State.launch]
      simp only [window_, target_]
      rfl
    have ctx : begun.ctx c = fresh := State.ctx_setCtx_self (s := u) c fresh
    have request : begun.lockRequest c = (if writes = 0 then [.startReading c] else [], launched) := by
      have asked := State.lockRequest_free (s := begun) (c := c) (by rw [ctx]; exact unlocked)
      rw [ctx] at asked
      exact asked
    have available : u.sweepCtx = some c := by
      rw [State.sweepCtx, if_pos (.inl empty)]
      exact find?_lowest allCtxs_ascending (mem_allCtxs c) (beq_iff_eq.2 free)
        (fun k below => beq_eq_false_iff_ne.2 (lowest k below))
    have may : u.mayLaunch = true := by
      have slots : s.job.window.length < s.target.policy.sweepDepth := by rw [window, depth]; simp
      have free_ : u.locked u.job.n = false := unlocked
      simp only [State.mayLaunch, free_, Bool.not_false, Bool.and_true, Bool.and_eq_true, decide_eq_true_eq]
      exact ⟨⟨⟨below, slots⟩, room⟩, credit⟩
    have examined : handle .examine u = ((if writes = 0 then [.startReading c] else []) ++ [.examine], launched) := by
      have launches := State.examine_launches (s := u) (c := c) active (by show s.job.n ∉ s.job.ahead; rw [ahead]; exact List.not_mem_nil)
        below may available
      rw [launch, request] at launches
      exact launches
    have waits {v : State} (job : v.job = launched.job) (same : v.target = launched.target) : handle .examine v = ([], v) := by
      refine State.examine_waits ?_ ?_ ?_
      · rw [job]; show s.job.n + 1 ∉ s.job.ahead; rw [ahead]; exact List.not_mem_nil
      · rw [job]; exact List.cons_ne_nil _ _
      · rw [job, same]; exact depth.le
    have launched_rests : launched.Rests := by
      have timer : taken.settleDue = false := State.settleDue_of_not_armed (by show s.job.state ≠ _; rw [active]; simp)
      have taken_rests : taken.Rests := rests.of_same timer rests.commit rfl rfl rfl rfl
      exact taken_rests.setCtx c rfl
    refine ⟨fun some_ => ?_, fun none_ open_ => ?_⟩
    · rw [if_neg some_] at examined
      have effects : Brings 2 [.examine] u launched := .cons examined (.one (waits rfl rfl))
      exact effects.cascade rests.owed (by decide) launched_rests
    · rw [if_pos none_] at examined
      have here : launched.ctx c = fresh := State.ctx_setCtx_self (s := taken) c fresh
      have starts : handle (.startReading c) launched = ([], launched.reading c first) := by
        have granted : launched.slt.locks.map (fun l => if l.ctx = c then { l with granted := true, drain := 0 } else l) =
            launched.slt.locks := by
          have same : ({ lock with granted := true, drain := 0 } : Lock) = lock := by simp [lock, none_]
          show (s.slt.locks ++ [lock]).map _ = s.slt.locks ++ [lock]
          have kept : s.slt.locks.map (fun l => if l.ctx = c then { l with granted := true, drain := 0 } else l) = s.slt.locks :=
            (List.map_congr_left (fun l mem => if_neg (lone l mem))).trans (List.map_id' _)
          rw [List.map_append, kept, List.map_singleton, if_pos rfl, same]
        have found : launched.slt.locks.find? (fun l => l.ctx == c) = some lock := by
          have others : s.slt.locks.find? (fun l => l.ctx == c) = none :=
            List.find?_eq_none.2 (fun l mem => by simpa using lone l mem)
          rw [show launched.slt.locks = s.slt.locks ++ [lock] from rfl, List.find?_append, others]
          simp [lock]
        have op : launched.readOp c = { kind := .read, addr := first + fresh.first, count := fresh.count
                                        orig := .ctx c fresh.serial, fgWrite := false, payload := .none } := by
          rw [State.readOp, State.ctxBase_of_lock found, here]
        have admitted := State.startReading_admitted (s := launched) (c := c)
          (by rw [here]; exact (State.memberPortsExcept_ascending (s := s) [t]).imp ne_of_lt) (by rw [here]; exact open_)
        rw [op, here] at admitted
        have reads : launched.reading c first = (launched.setCtx c { fresh with state := .reading, outstanding := fresh.mask }).peerReads
            c { kind := .read, addr := first + fresh.first, count := fresh.count, orig := .ctx c fresh.serial, fgWrite := false
                payload := .none } fresh.mask := by
          rw [State.reading, granted, here]
        rw [reads]
        exact admitted
      obtain ⟨job, same⟩ := launched.reading_job c first
      have effects : Brings 3 [.examine] u (launched.reading c first) :=
        .cons examined (.step starts (.one (waits job same)))
      exact effects.cascade rests.owed (by decide) (launched_rests.reading c first)

end

section
/-! SUPPORT. The bounds of the queues, the ports and the counts and the bonds of the in-flight and lock tables as one
invariant (R18, R25, R40 to R42, R58, R62, R66, R68, R79, R110, R128, R144, R150, R156), and the updates of the state that
keep it since they touch nothing it binds. -/
namespace Sys2Proof.Machine

/-- Each of these tags once, and each the tag of an entry of the table in this state: the bond of a queue of requests. -/
def Queued (table : List InFlight) (st : ReqState) (tags : List Nat) : Prop :=
  tags.Nodup ∧ ∀ tag ∈ tags, ∃ e ∈ table, e.tag = tag ∧ e.state = st

/-- The tags of the held queue (R68). -/
def State.heldTags (s : State) : List Nat := s.slt.held.map (·.tag)

/-- The tags of the entries whose responses are queued (R58). -/
def State.answeredTags (s : State) : List Nat := s.channel.responses.filterMap (·.entryTag)

/-- A lock counts the foreground writes over its blocks, and is GRANTED exactly where there is none (R63, R66). -/
def State.Counts (s : State) (l : Lock) : Prop :=
  l.drain = s.foregroundWrites l.first l.last ∧ (l.granted = true ↔ l.drain = 0)

/-- Two locks of different contexts, over no common block (R62). -/
def Lock.Apart (a b : Lock) : Prop := a.ctx ≠ b.ctx ∧ ¬ (a.first ≤ b.last ∧ b.first ≤ a.last)

/-- An open member request's stripe holds its first block (R8). -/
def State.Placed (s : State) (e : InFlight) : Prop :=
  e.openMember = true → ∀ x, e.place = some x → s.firstBlock x.stripe ≤ e.addr ∧ e.addr ≤ s.lastBlock x.stripe

/-- The four invariants at once, without the bounds that follow from the bonds: `State.sound_iff`. -/
structure State.Sound (s : State) : Prop where
  tags : (s.table.map (·.tag)).Nodup
  range : ∀ e ∈ s.table, e.tag ≤ Config.tagBound
  held : Queued s.table .held s.heldTags
  waiting : Queued s.table .waiting s.engine.waitList
  answered : Queued s.table .answered s.answeredTags
  heldBound : s.slt.held.length ≤ Config.heldBound
  refusals : s.channel.refusals ≤ Config.refusalBound
  ahead : s.job.ahead.length ≤ Config.aheadBound
  notices : s.notices.queue.length ≤ Config.noticeBound
  milestones : s.notices.milestones.length ≤ Config.milestoneBound
  commands : s.target.waiting.length ≤ Config.waitingBound
  fg : s.pacing.fg ≤ Config.fgBound
  ports : s.PortInv
  owner : ∀ l ∈ s.slt.locks, (s.ctx l.ctx).state ≠ .free
  apart : s.slt.locks.Pairwise Lock.Apart
  counts : ∀ l ∈ s.slt.locks, s.Counts l
  deferred : ∀ p, ∀ op ∈ (s.port p).deferred, op.fgWrite = false
  place : ∀ e ∈ s.table, s.Placed e
  owed : ∀ c, s.engine.owed = some c → (s.ctx c).state ≠ .free ∧ ∀ l ∈ s.slt.locks, l.ctx ≠ c

/-! ## The bounds that follow from the bonds -/

/-- The queued tags are tags of the table. -/
theorem Queued.length_le {table : List InFlight} {st : ReqState} {tags : List Nat} (h : Queued table st tags) :
    tags.length ≤ table.length := by
  have sub : tags ⊆ table.map (·.tag) := fun tag mem => by
    obtain ⟨e, he, rfl, -⟩ := h.2 tag mem
    exact List.mem_map_of_mem he
  simpa using (List.subperm_of_subset h.1 sub).length_le

/-- A response is an entry's or of the refusal list. -/
theorem Channel.length_responses (ch : Channel) :
    ch.responses.length = ch.refusals + (ch.responses.filterMap (·.entryTag)).length := by
  unfold Channel.refusals
  induction ch.responses with
  | nil => rfl
  | cons r rs ih => cases r <;> simp [QueuedResponse.entryTag, ih] <;> omega

theorem State.Sound.length_table {s : State} (h : s.Sound) : s.table.length ≤ 64 := by
  have sub : s.table.map (·.tag) ⊆ List.range 64 := fun tag mem => by
    obtain ⟨e, he, rfl⟩ := List.mem_map.mp mem
    exact List.mem_range.mpr (Nat.lt_succ_of_le (h.range e he))
  simpa using (List.subperm_of_subset h.tags sub).length_le

theorem State.Sound.length_locks {s : State} (h : s.Sound) : s.slt.locks.length ≤ 8 := by
  have nodup : (s.slt.locks.map (·.ctx)).Nodup := List.pairwise_map.mpr (h.apart.imp And.left)
  simpa using nodup.length_le_card

/-- The invariant is the four of the statement. -/
theorem State.sound_iff (s : State) : s.Sound ↔ s.QueueInv ∧ s.TableInv ∧ s.PortInv ∧ s.LockInv := by
  constructor
  · intro h
    have table := h.length_table
    have held : s.TableInv :=
      { tags := h.tags
        range := h.range
        held := ⟨h.held.1, fun x mem => h.held.2 x.tag (List.mem_map_of_mem mem)⟩
        waiting := h.waiting
        answered := h.answered }
    have queue : s.QueueInv :=
      { table
        refusals := h.refusals
        responses := by
          have split := s.channel.length_responses
          have answered : (s.channel.responses.filterMap (·.entryTag)).length ≤ s.table.length := h.answered.length_le
          have refusals := h.refusals
          simp only [Config.refusalBound] at refusals
          omega
        waitList := h.waiting.length_le.trans table
        held := h.heldBound
        ahead := h.ahead
        notices := h.notices
        milestones := h.milestones
        waiting := h.commands
        fg := h.fg }
    refine ⟨queue, held, h.ports, ?_⟩
    exact
      { length := h.length_locks
        owner := h.owner
        apart := h.apart
        granted := fun l mem granted => by
          obtain ⟨count, iff⟩ := h.counts l mem
          exact ⟨iff.1 granted, count ▸ iff.1 granted⟩
        draining := fun l mem draining => by
          obtain ⟨count, iff⟩ := h.counts l mem
          refine ⟨Nat.pos_of_ne_zero fun zero => ?_, count⟩
          rw [iff.2 zero] at draining
          cases draining
        deferred := h.deferred
        place := h.place
        owed := h.owed }
  · rintro ⟨queue, table, ports, lock⟩
    exact
      { tags := table.tags
        range := table.range
        held := ⟨table.held.1, fun tag mem => by
          obtain ⟨x, hx, rfl⟩ := List.mem_map.mp mem
          exact table.held.2 x hx⟩
        waiting := table.waiting
        answered := table.answered
        heldBound := queue.held
        refusals := queue.refusals
        ahead := queue.ahead
        notices := queue.notices
        milestones := queue.milestones
        commands := queue.waiting
        fg := queue.fg
        ports
        owner := lock.owner
        apart := lock.apart
        counts := fun l mem => by
          cases granted : l.granted with
          | true =>
            obtain ⟨drain, none⟩ := lock.granted l mem granted
            exact ⟨by rw [drain, none], by simp [granted, drain]⟩
          | false =>
            obtain ⟨pos, count⟩ := lock.draining l mem granted
            exact ⟨count, by simp [granted]; omega⟩
        deferred := lock.deferred
        place := lock.place
        owed := lock.owed }

/-! ## Updates of one block -/

namespace State.Sound

variable {s : State} (h : s.Sound)
include h

theorem withJob (j : Job) (ahead : j.ahead.length ≤ Config.aheadBound) : ({ s with job := j } : State).Sound :=
  { h with ahead }

theorem withPacing (x : Pacing) (fg : x.fg ≤ Config.fgBound) : ({ s with pacing := x } : State).Sound := { h with fg }

theorem withLost (x : LostList) : ({ s with lost := x } : State).Sound := { h with }

theorem withNotices (x : NoticeBlock) (notices : x.queue.length ≤ Config.noticeBound)
    (milestones : x.milestones.length ≤ Config.milestoneBound) : ({ s with notices := x } : State).Sound :=
  { h with notices, milestones }

/-- A change of the management target that leaves StripBlocks and queues no command too many. -/
theorem withTarget (x : Target) (blocks : x.committed.stripBlocks = s.target.committed.stripBlocks)
    (commands : x.waiting.length ≤ Config.waitingBound) : ({ s with target := x } : State).Sound :=
  { h with
    commands
    place := fun e mem opened y placed => by
      have inside := h.place e mem opened y placed
      unfold State.firstBlock State.lastBlock State.stripBlocks at inside ⊢
      simpa only [blocks] using inside }

/-- A change of the channel port that leaves the response queue. -/
theorem withChannel (x : Channel) (responses : x.responses = s.channel.responses) :
    ({ s with channel := x } : State).Sound :=
  { h with
    refusals := by simpa only [Channel.refusals, responses] using h.refusals
    answered := by simpa only [State.answeredTags, responses] using h.answered }

theorem withSticky (x : Causes) : ({ s with engine := { s.engine with sticky := x } } : State).Sound := { h with }

theorem withLate (x : List Bool) : ({ s with engine := { s.engine with late := x } } : State).Sound := { h with }

theorem withoutOwed : ({ s with engine := { s.engine with owed := none } } : State).Sound :=
  { h with owed := fun _ owed => nomatch owed }

theorem withPending (l : List Instr) : ({ s with pending := l } : State).Sound := { h with }

theorem advanceTo (t : Nat) : (s.advanceTo t).Sound := { h with }

theorem latch (st : Status) : (s.latch st).Sound := h.withTarget _ rfl h.commands

theorem countForeground : s.countForeground.Sound := h.withPacing _ (Nat.min_le_right _ _)

theorem periodEnd (t : Nat) : (s.periodEnd t).Sound := h.withPacing _ (Nat.zero_le _)

theorem dropWindow : s.dropWindow.Sound := { h with ahead := Nat.zero_le _ }

theorem releaseReservation : s.releaseReservation.Sound := h.withLost _

/-! ## A port's settings, a context -/

/-- A change of ports that leaves their lists and keeps their error counts in bounds. -/
theorem withPorts (ports : Vector Port 10) (same : ∀ p, (ports.get p).list = (s.port p).list ∧
    (ports.get p).deferred = (s.port p).deferred ∧ (ports.get p).errors ≤ Config.errorBound) :
    ({ s with ports } : State).Sound :=
  { h with
    ports := fun p =>
      have ⟨list, deferred, errors⟩ := same p
      { list := list ▸ (h.ports p).list
        outstanding := by
          have outstanding := (h.ports p).outstanding
          rw [Port.outstanding, ← list] at outstanding
          exact outstanding
        errors
        deferred := deferred ▸ (h.ports p).deferred
        makers := deferred ▸ (h.ports p).makers }
    counts := fun l mem => by
      have list (p : PortId) : (State.port { s with ports } p).list = (s.port p).list := (same p).1
      simpa only [State.Counts, State.foregroundWrites, list] using h.counts l mem
    deferred := fun p => (same p).2.1 ▸ h.deferred p }

/-- A change of a port that leaves its lists and keeps its error count in bounds. -/
theorem setPort (p : PortId) (x : Port) (list : x.list = (s.port p).list) (deferred : x.deferred = (s.port p).deferred)
    (errors : x.errors ≤ Config.errorBound) : (s.setPort p x).Sound :=
  h.withPorts (s.ports.set p x) fun q => by
    rw [show (s.ports.set p x).get q = _ from s.port_setPort p q x]
    split
    · next same => exact same ▸ ⟨list, deferred, errors⟩
    · exact ⟨rfl, rfl, (h.ports q).errors⟩

/-- A change of a context that does not free it. -/
theorem setCtx (c : CtxId) (x : Context) (inUse : (s.ctx c).state ≠ .free → x.state ≠ .free) : (s.setCtx c x).Sound :=
  have stays (d : CtxId) (busy : (s.ctx d).state ≠ .free) : ((s.setCtx c x).ctx d).state ≠ .free := by
    rw [State.ctx_setCtx]
    split
    · next same => subst same; exact inUse busy
    · exact busy
  { h with
    owner := fun l mem => stays _ (h.owner l mem)
    owed := fun d owed => ⟨stays d (h.owed d owed).1, (h.owed d owed).2⟩ }

end State.Sound

end Sys2Proof.Machine
end

section
/-! SUPPORT. The table of requests with its queues: an entry that changes its state, one that joins or leaves a queue, and
the answer, the hold and the release made of these. -/
namespace Sys2Proof.Machine

/-! ## Queued requests -/

theorem Queued.sublist {table : List InFlight} {st : ReqState} {tags some : List Nat} (h : Queued table st tags)
    (sub : some.Sublist tags) : Queued table st some :=
  ⟨h.1.sublist sub, fun tag mem => h.2 tag (sub.subset mem)⟩

/-- A request whose entry stands in the queue's state joins a queue it is not in. -/
theorem Queued.append {table : List InFlight} {st : ReqState} {tags : List Nat} (h : Queued table st tags) {tag : Nat}
    (entry : ∃ e ∈ table, e.tag = tag ∧ e.state = st) (new : tag ∉ tags) : Queued table st (tags ++ [tag]) := by
  refine ⟨List.nodup_append.mpr ⟨h.1, List.nodup_singleton _, fun a mem b last => ?_⟩, fun x mem => ?_⟩
  · rw [List.mem_singleton.mp last]
    exact fun same => new (same ▸ mem)
  · rcases List.mem_append.mp mem with old | last
    · exact h.2 x old
    · exact List.mem_singleton.mp last ▸ entry

/-- A change of entries that leaves the tags, and the states of the queued ones. -/
theorem Queued.map {table : List InFlight} {st : ReqState} {tags : List Nat} (h : Queued table st tags)
    {g : InFlight → InFlight} (tag : ∀ e ∈ table, (g e).tag = e.tag)
    (state : ∀ e ∈ table, e.tag ∈ tags → (g e).state = e.state) : Queued (table.map g) st tags := by
  refine ⟨h.1, fun x mem => ?_⟩
  obtain ⟨e, he, rfl, stands⟩ := h.2 x mem
  exact ⟨g e, List.mem_map_of_mem he, tag e he, (state e he mem).trans stands⟩

/-- With no two entries of one tag, an entry in another state is not queued. -/
theorem Queued.not_mem {table : List InFlight} {st : ReqState} {tags : List Nat} (h : Queued table st tags)
    (nodup : (table.map (·.tag)).Nodup) {e : InFlight} (mem : e ∈ table) (other : e.state ≠ st) : e.tag ∉ tags := by
  intro queued
  obtain ⟨x, hx, same, stands⟩ := h.2 _ queued
  exact other (List.inj_on_of_nodup_map nodup hx mem same ▸ stands)

/-- Whether a queue of requests names this tag. -/
def State.inQueue (s : State) (tag : Nat) : Prop :=
  tag ∈ s.heldTags ∨ tag ∈ s.engine.waitList ∨ tag ∈ s.answeredTags

/-- An entry found by its tag is in the table. -/
theorem State.mem_of_entry? {s : State} {tag : Nat} {e : InFlight} (found : s.entry? tag = some e) :
    e ∈ s.table ∧ e.tag = tag :=
  ⟨List.mem_of_find?_eq_some found, by simpa using List.find?_some found⟩

namespace State.Sound

variable {s : State} (h : s.Sound)
include h

/-- An entry in a state of no queue is in none. -/
theorem not_inQueue {e : InFlight} (mem : e ∈ s.table) (held : e.state ≠ .held) (waiting : e.state ≠ .waiting)
    (answered : e.state ≠ .answered) : ¬ s.inQueue e.tag := by
  rintro (queued | queued | queued)
  · exact h.held.not_mem h.tags mem held queued
  · exact h.waiting.not_mem h.tags mem waiting queued
  · exact h.answered.not_mem h.tags mem answered queued

theorem entry_unique {e x : InFlight} (he : e ∈ s.table) (hx : x ∈ s.table) (same : x.tag = e.tag) : x = e :=
  List.inj_on_of_nodup_map h.tags hx he same

/-! ## Entries -/

end State.Sound

/-- A change of an entry that every bond allows: its tag and, where a queue names it, its state stand; it stays in place. -/
structure State.Allows (s : State) (e x : InFlight) : Prop where
  tag : x.tag = e.tag
  placed : s.Placed e → s.Placed x
  state : s.inQueue e.tag → x.state = e.state

theorem State.Allows.refl (s : State) (e : InFlight) : s.Allows e e := ⟨rfl, id, fun _ => rfl⟩

/-- An entry with its blocks and its place stays in place unless it is opened. -/
theorem State.Placed.of_eq {s : State} {e x : InFlight} (h : s.Placed e) (addr : x.addr = e.addr)
    (place : x.place = e.place) (opens : x.openMember = true → e.openMember = true) : s.Placed x := fun opened y placed => by
  rw [addr]
  exact h (opens opened) y (place ▸ placed)

/-- A change of the state of an entry that no queue names. -/
theorem State.allows_of_not_inQueue {s : State} {e x : InFlight} (loose : ¬ s.inQueue e.tag) (tag : x.tag = e.tag)
    (addr : x.addr = e.addr) (place : x.place = e.place) (opens : x.openMember = true → e.openMember = true) :
    s.Allows e x :=
  ⟨tag, fun h => h.of_eq addr place opens, fun queued => absurd queued loose⟩

/-- A member request that has still to be answered is open. -/
theorem InFlight.openMember_of_state {e x : InFlight} (op : x.op = e.op) (state : e.state ≠ .answered)
    (opened : x.openMember = true) : e.openMember = true := by
  simp only [InFlight.openMember, Bool.and_eq_true, bne_iff_ne, ne_eq] at opened ⊢
  exact ⟨op ▸ opened.1, state⟩

namespace State.Sound

variable {s : State} (h : s.Sound)
include h

theorem mapTable (g : InFlight → InFlight) (allowed : ∀ e ∈ s.table, s.Allows e (g e)) :
    ({ s with table := s.table.map g } : State).Sound :=
  { h with
    tags := by
      have same : (s.table.map g).map (·.tag) = s.table.map (·.tag) := by
        rw [List.map_map]
        exact List.map_congr_left fun e mem => (allowed e mem).tag
      exact same ▸ h.tags
    range := fun e mem => by
      obtain ⟨x, hx, rfl⟩ := List.mem_map.mp mem
      exact (allowed x hx).tag ▸ h.range x hx
    held := h.held.map (fun e mem => (allowed e mem).tag) (fun e mem queued => (allowed e mem).state (.inl queued))
    waiting := h.waiting.map (fun e mem => (allowed e mem).tag)
      (fun e mem queued => (allowed e mem).state (.inr (.inl queued)))
    answered := h.answered.map (fun e mem => (allowed e mem).tag)
      (fun e mem queued => (allowed e mem).state (.inr (.inr queued)))
    place := fun e mem => by
      obtain ⟨x, hx, rfl⟩ := List.mem_map.mp mem
      exact (allowed x hx).placed (h.place x hx) }

theorem setEntry (tag : Nat) (f : InFlight → InFlight) (allowed : ∀ e ∈ s.table, e.tag = tag → s.Allows e (f e)) :
    (s.setEntry tag f).Sound :=
  h.mapTable _ fun e mem => by
    split
    · next same => exact allowed e mem same
    · exact .refl s e

/-- A change of one entry that no queue names. -/
theorem setLoose {tag : Nat} {e : InFlight} (found : s.entry? tag = some e) (loose : ¬ s.inQueue tag)
    (f : InFlight → InFlight) (keeps : (f e).tag = e.tag ∧ (f e).addr = e.addr ∧ (f e).place = e.place)
    (opens : (f e).openMember = true → e.openMember = true) : (s.setEntry tag f).Sound :=
  h.setEntry tag f fun x mem same => by
    obtain ⟨he, tagE⟩ := State.mem_of_entry? found
    obtain rfl : x = e := h.entry_unique he mem (same.trans tagE.symm)
    exact State.allows_of_not_inQueue (tagE ▸ loose) keeps.1 keeps.2.1 keeps.2.2 opens

/-- A request that no queue names goes back to ROUTING. -/
theorem setRouting (tag : Nat) {st : ReqState} (opened : st ≠ .answered)
    (loose : ∀ e ∈ s.table, e.tag = tag → e.state = st → ¬ s.inQueue tag) :
    (s.setEntry tag (InFlight.toRouting st)).Sound :=
  h.setEntry tag _ fun e mem same => by
    unfold InFlight.toRouting
    split
    · next state =>
      exact State.allows_of_not_inQueue (same ▸ loose e mem same state) rfl rfl rfl
        (InFlight.openMember_of_state rfl (state ▸ opened))
    · exact .refl s e

/-- A request in ISSUED goes back to ROUTING. -/
theorem setRoutingIssued (tag : Nat) : (s.setEntry tag (InFlight.toRouting .issued)).Sound :=
  h.setRouting tag (by decide) fun e mem same state =>
    same ▸ h.not_inQueue mem (by simp [state]) (by simp [state]) (by simp [state])

theorem withoutCtx (tag : Nat) : (s.setEntry tag InFlight.withoutCtx).Sound :=
  h.setEntry tag _ fun e _ _ => by
    unfold InFlight.withoutCtx
    split
    · exact ⟨rfl, id, fun _ => rfl⟩
    · exact .refl s e

/-- A new entry joins the table (R43). -/
theorem addEntry (e : InFlight) (range : e.tag ≤ Config.tagBound) (new : s.entry? e.tag = none) (place : e.place = none) :
    (s.addEntry e).Sound :=
  have more {st : ReqState} {tags : List Nat} (q : Queued s.table st tags) : Queued (s.table ++ [e]) st tags :=
    ⟨q.1, fun tag mem => by
      obtain ⟨x, hx, stands⟩ := q.2 tag mem
      exact ⟨x, List.mem_append_left _ hx, stands⟩⟩
  { h with
    tags := by
      rw [State.addEntry_table, List.map_append]
      refine List.nodup_append.mpr ⟨h.tags, List.nodup_singleton _, fun a mem b last => ?_⟩
      obtain ⟨x, hx, rfl⟩ := List.mem_map.mp mem
      rw [List.mem_singleton.mp last]
      exact State.tag_ne_of_free new x hx
    range := fun x mem => by
      rcases List.mem_append.mp mem with old | last
      · exact h.range x old
      · exact List.mem_singleton.mp last ▸ range
    held := more h.held
    waiting := more h.waiting
    answered := more h.answered
    place := fun x mem => by
      rcases List.mem_append.mp mem with old | last
      · exact h.place x old
      · intro _ y placed
        rw [List.mem_singleton.mp last, place] at placed
        cases placed }

/-- An entry that no queue names leaves the table. -/
theorem dropEntry (tag : Nat) (loose : ¬ s.inQueue tag) :
    ({ s with table := s.table.filter (fun e => e.tag != tag) } : State).Sound :=
  have fewer {st : ReqState} {tags : List Nat} (q : Queued s.table st tags) (out : tag ∉ tags) :
      Queued (s.table.filter (fun e => e.tag != tag)) st tags :=
    ⟨q.1, fun x mem => by
      obtain ⟨e, he, rfl, stands⟩ := q.2 x mem
      exact ⟨e, List.mem_filter.mpr ⟨he, by simpa using fun same : e.tag = tag => out (same ▸ mem)⟩, rfl, stands⟩⟩
  { h with
    tags := h.tags.sublist (List.filter_sublist.map _)
    range := fun e mem => h.range e (List.mem_of_mem_filter mem)
    held := fewer h.held fun mem => loose (.inl mem)
    waiting := fewer h.waiting fun mem => loose (.inr (.inl mem))
    answered := fewer h.answered fun mem => loose (.inr (.inr mem))
    place := fun e mem => h.place e (List.mem_of_mem_filter mem) }

/-! ## Queues -/

/-- The transmitter's choice (R59). -/
theorem transmit : s.transmit.Sound := by
  unfold State.transmit
  split
  · split
    · exact h.withChannel _ rfl
    · split
      · exact h
      · next n rest queue =>
        split
        · exact (h.withNotices { s.notices with queue := rest } (by have := h.notices; rw [queue] at this; simp at this ⊢; omega)
            h.milestones).withChannel _ rfl
        · exact h
  · exact h

/-- The response of an entry in ANSWERED joins the response queue (R58). -/
theorem queueAnswer {tag : Nat} (entry : ∃ e ∈ s.table, e.tag = tag ∧ e.state = .answered) (new : tag ∉ s.answeredTags) :
    (s.queueResponse (.entry tag)).Sound := by
  refine State.Sound.transmit ?_
  exact
    { h with
      refusals := by simpa [Channel.refusals] using h.refusals
      answered := by
        have := h.answered.append entry new
        simpa [State.answeredTags, QueuedResponse.entryTag] using this }

/-- A refusal joins the refusal list, where it has room (R42). -/
theorem refuseFrame (room : s.channel.refusals < Config.refusalBound) (tag : Byte) (st : Status) :
    (s.refuseFrame tag st).Sound := by
  refine State.Sound.transmit ?_
  exact
    { h with
      refusals := by
        simp only [Channel.refusals, List.countP_append] at room ⊢
        simpa using room
      answered := by simpa [State.answeredTags, QueuedResponse.entryTag] using h.answered }

/-- An entry in ROUTING or ISSUED is answered, whatever else of it changes (R41). -/
theorem setAnswered {tag : Nat} {e : InFlight} (found : s.entry? tag = some e) (answerable : e.answerable = true)
    (f : InFlight → InFlight) (keeps : (f e).tag = e.tag) (answered : (f e).state = .answered) :
    ((s.setEntry tag f).queueResponse (.entry tag)).Sound := by
  obtain ⟨mem, rfl⟩ := State.mem_of_entry? found
  have loose : ¬ s.inQueue e.tag := by
    apply h.not_inQueue mem <;> intro state <;> simp [InFlight.answerable, state] at answerable
  have moved := h.setEntry e.tag f fun x hx same => by
    obtain rfl : x = e := h.entry_unique mem hx same
    exact ⟨keeps, fun _ opened => by simp [InFlight.openMember, answered] at opened, fun queued => absurd queued loose⟩
  exact moved.queueAnswer ⟨f e, by simpa using ⟨e, mem, by simp⟩, keeps, answered⟩ fun queued => loose (.inr (.inr queued))

/-- An entry is answered (R41). -/
theorem answer (tag : Nat) (r : Response) : (s.answer tag r).Sound := by
  rcases s.answer_cases tag r with ⟨-, e⟩ | ⟨e, found, answerable, eq⟩
  · rw [e]; exact h
  · rw [eq]; exact h.setAnswered found answerable _ rfl rfl

/-- A request in ROUTING or ISSUED joins the held queue, or is answered BUSY (R68). -/
theorem hold {tag stripe : Nat} {e : InFlight} (found : s.entry? tag = some e)
    (stands : e.state = .routing ∨ e.state = .issued) : (s.hold tag stripe).Sound := by
  rcases s.hold_cases tag stripe with ⟨c, room, -, eq⟩ | eq
  · obtain ⟨mem, rfl⟩ := State.mem_of_entry? found
    have loose : ¬ s.inQueue e.tag := by
      apply h.not_inQueue mem <;> intro state <;> simp [state] at stands
    have moved := h.setLoose found loose (fun e => { e with state := .held, forward := none, ctx := none })
      ⟨rfl, rfl, rfl⟩ (InFlight.openMember_of_state rfl (by intro state; simp [state] at stands))
    rw [eq]
    have entry : ∃ x ∈ (s.setEntry e.tag (fun e => { e with state := .held, forward := none, ctx := none })).table,
        x.tag = e.tag ∧ x.state = .held := ⟨_, List.mem_map_of_mem mem, by simp⟩
    exact
      { moved with
        held := by
          have := moved.held.append entry fun queued => loose (.inl queued)
          simpa [State.heldTags] using this
        heldBound := by simpa using room }
  · rw [eq]; exact h.answer _ _

/-- A request in ROUTING joins the context wait list (R78). -/
theorem wait {tag : Nat} {e : InFlight} (found : s.entry? tag = some e) (stands : e.state = .routing) :
    ({ s with engine := { s.engine with waitList := s.engine.waitList ++ [tag] } }.setEntry tag
      (fun x => { x with state := .waiting })).Sound := by
  obtain ⟨mem, rfl⟩ := State.mem_of_entry? found
  have loose : ¬ s.inQueue e.tag := by apply h.not_inQueue mem <;> simp [stands]
  have moved := h.setLoose found loose (fun x => { x with state := .waiting })
    ⟨rfl, rfl, rfl⟩ (InFlight.openMember_of_state rfl (by simp [stands]))
  have entry : ∃ x ∈ (s.setEntry e.tag (fun x => { x with state := .waiting })).table,
      x.tag = e.tag ∧ x.state = .waiting := ⟨_, List.mem_map_of_mem mem, by simp⟩
  exact { moved with waiting := moved.waiting.append entry fun queued => loose (.inr (.inl queued)) }

end State.Sound

end Sys2Proof.Machine
end

section
/-! SUPPORT. The lists of the ports and the drain counts: what admission, issue, deferral, orphaning and departure leave of
the bounds, and how a departure keeps the counts of the locks (R17 to R20, R23, R27, R62 to R66). -/
namespace Sys2Proof.Machine

/-! ## Foreground writes -/

/-- Whether an operation is a foreground write at a block from first to last (R63). -/
def DriveOp.writesIn (first last : Nat) (op : DriveOp) : Bool :=
  op.fgWrite && decide (first ≤ op.addr) && decide (op.addr ≤ last)

/-- The foreground writes of a port's list at a block from first to last (R63). -/
def Port.writes (x : Port) (first last : Nat) : Nat := (x.list.map (·.op)).countP (·.writesIn first last)

theorem State.foregroundWrites_eq (s : State) (first last : Nat) :
    s.foregroundWrites first last = ∑ p, (s.port p).writes first last := by
  rw [Fin.sum_univ_def]
  simp only [Port.writes, List.countP_map]
  rfl

theorem State.foregroundWrites_congr {s t : State} {first last : Nat}
    (same : ∀ p, (t.port p).writes first last = (s.port p).writes first last) :
    t.foregroundWrites first last = s.foregroundWrites first last := by
  rw [State.foregroundWrites_eq, State.foregroundWrites_eq]
  exact Finset.sum_congr rfl fun p _ => same p

/-- The count with one port replaced. -/
theorem State.foregroundWrites_setPort (s : State) (p : PortId) (x : Port) (first last : Nat) :
    (s.setPort p x).foregroundWrites first last + (s.port p).writes first last =
      s.foregroundWrites first last + x.writes first last := by
  have others : ∑ q ∈ Finset.univ.erase p, ((s.setPort p x).port q).writes first last =
      ∑ q ∈ Finset.univ.erase p, (s.port q).writes first last :=
    Finset.sum_congr rfl fun q mem => by rw [State.port_setPort_ne s (Finset.ne_of_mem_erase mem).symm]
  have before := Finset.add_sum_erase Finset.univ (fun q => (s.port q).writes first last) (Finset.mem_univ p)
  have after := Finset.add_sum_erase Finset.univ (fun q => ((s.setPort p x).port q).writes first last) (Finset.mem_univ p)
  rw [State.port_setPort_self] at after
  rw [State.foregroundWrites_eq, State.foregroundWrites_eq, ← before, ← after, others]
  omega

theorem Port.writes_issuing (x : Port) (deadline first last : Nat) :
    (x.issuing deadline).writes first last = x.writes first last := by
  unfold Port.issuing Port.writes
  split
  · rw [issueEntries_ops]
  · rfl

/-! ## The bounds of a port -/

/-- A deferred queue with one operation a context holds at most eight (R19). -/
theorem length_le_of_makers {ops : List DriveOp} (nodup : (ops.map (·.maker)).Nodup)
    (made : ∀ op ∈ ops, op.maker.isSome = true) : ops.length ≤ 8 := by
  have sub : ops.map (·.maker) ⊆ allCtxs.map some := fun m mem => by
    obtain ⟨op, hop, rfl⟩ := List.mem_map.mp mem
    obtain ⟨c, hc⟩ := Option.isSome_iff_exists.mp (made op hop)
    exact List.mem_map.mpr ⟨c, mem_allCtxs c, hc.symm⟩
  simpa [allCtxs] using (List.subperm_of_subset nodup sub).length_le

/-- The issue rule keeps the bounds of a port (R20). -/
theorem Port.Bounded.issuing {x : Port} (h : x.Bounded) (deadline : Nat) : (x.issuing deadline).Bounded := by
  unfold Port.issuing
  split
  · exact
      { h with
        list := (issueEntries_length ..).trans_le h.list
        outstanding := by
          have outstanding := h.outstanding
          simp only [Port.outstanding, Config.outstandingBound] at outstanding ⊢
          rw [issueEntries_outstanding]
          omega }
  · exact h

/-- A waiting entry at the end of a list with room keeps the bounds (R18). -/
theorem Port.Bounded.append {x : Port} (h : x.Bounded) (room : x.list.length < Config.listBound) (op : DriveOp) :
    ({ x with list := x.list ++ [{ op, issue := none }] } : Port).Bounded :=
  { h with
    list := by simpa using room
    outstanding := by simpa [Port.outstanding] using h.outstanding }

/-- A list with fewer entries keeps the bounds. -/
theorem Port.Bounded.sublist {x : Port} (h : x.Bounded) {list : List ListEntry} (sub : list.Sublist x.list) :
    ({ x with list } : Port).Bounded :=
  { h with
    list := sub.length_le.trans h.list
    outstanding := (sub.countP_le).trans h.outstanding }

/-- A deferred queue with fewer operations keeps the bounds. -/
theorem Port.Bounded.undefer {x : Port} (h : x.Bounded) {deferred : List DriveOp} (sub : deferred.Sublist x.deferred) :
    ({ x with deferred } : Port).Bounded :=
  { h with
    deferred := sub.length_le.trans h.deferred
    makers := ⟨h.makers.1.sublist (sub.map _), fun op mem => h.makers.2 op (sub.subset mem)⟩ }

/-- An operation of a context with none in the deferred queue joins it (R19). -/
theorem Port.Bounded.defer {x : Port} (h : x.Bounded) {op : DriveOp} {c : CtxId} (made : op.maker = some c)
    (none_ : x.deferred.any (·.ofCtxs [c]) = false) : ({ x with deferred := x.deferred ++ [op] } : Port).Bounded :=
  have makers : ((x.deferred ++ [op]).map (·.maker)).Nodup ∧ ∀ k ∈ x.deferred ++ [op], k.maker.isSome = true := by
    constructor
    · rw [List.map_append]
      refine List.nodup_append.mpr ⟨h.makers.1, List.nodup_singleton _, fun a mem b last => ?_⟩
      obtain ⟨k, hk, rfl⟩ := List.mem_map.mp mem
      rw [List.mem_singleton.mp last]
      have other := List.any_eq_false.mp none_ k hk
      intro same
      have maker : k.maker = some c := same.trans made
      unfold DriveOp.maker at maker
      unfold DriveOp.ofCtxs at other
      split at maker
      · next orig => cases maker; simp [orig] at other
      · cases maker
      · cases maker
    · intro k mem
      rcases List.mem_append.mp mem with old | last
      · exact h.makers.2 k old
      · rw [List.mem_singleton.mp last, made]; rfl
  { h with
    deferred := length_le_of_makers makers.1 makers.2
    makers }

/-- Orphans keep the bounds (R27). -/
theorem Port.Bounded.orphanCtxs {x : Port} (h : x.Bounded) (cs : List CtxId) : (x.orphanCtxs cs).Bounded :=
  have fewer := h.undefer (List.filter_sublist (p := fun op : DriveOp => !op.ofCtxs cs))
  { list := by simpa [Port.orphanCtxs] using h.list
    errors := h.errors
    deferred := fewer.deferred
    makers := fewer.makers
    outstanding := by simpa [Port.orphanCtxs, Port.outstanding, List.countP_map, Function.comp_def] using h.outstanding }

theorem Port.Bounded.orphanTags {x : Port} (h : x.Bounded) : x.orphanTags.Bounded :=
  { h with
    list := by simpa [Port.orphanTags] using h.list
    outstanding := by simpa [Port.orphanTags, Port.outstanding, List.countP_map, Function.comp_def] using h.outstanding }

theorem Port.writes_orphanCtxs (x : Port) (cs : List CtxId) (first last : Nat) :
    (x.orphanCtxs cs).writes first last = x.writes first last := by
  simp only [Port.writes, Port.orphanCtxs, List.countP_map]
  rfl

theorem Port.writes_orphanTags (x : Port) (first last : Nat) : x.orphanTags.writes first last = x.writes first last := by
  simp only [Port.writes, Port.orphanTags, List.countP_map]
  rfl

/-! ## Lists -/

namespace State.Sound

variable {s : State} (h : s.Sound)
include h

/-- A change of lists, and of the locks with them, that keeps the bounds of the ports and the counts of the locks. -/
theorem relist (ports : Vector Port 10) (g : Lock → Lock)
    (bounded : ∀ p, (ports.get p).Bounded) (deferred : ∀ p, ∀ op ∈ (ports.get p).deferred, op.fgWrite = false)
    (ranges : ∀ l, (g l).ctx = l.ctx ∧ (g l).first = l.first ∧ (g l).last = l.last)
    (counts : ∀ l ∈ s.slt.locks, ({ s with ports } : State).Counts (g l)) :
    ({ s with ports, slt := { s.slt with locks := s.slt.locks.map g } } : State).Sound :=
  { h with
    ports := bounded
    deferred
    owner := fun l mem => by
      obtain ⟨k, hk, rfl⟩ := List.mem_map.mp mem
      exact (ranges k).1 ▸ h.owner k hk
    apart := List.pairwise_map.mpr (h.apart.imp fun {a b} apart => by
      obtain ⟨ctxA, firstA, lastA⟩ := ranges a
      obtain ⟨ctxB, firstB, lastB⟩ := ranges b
      rw [Lock.Apart, ctxA, ctxB, firstA, firstB, lastA, lastB]
      exact apart)
    counts := fun l mem => by
      obtain ⟨k, hk, rfl⟩ := List.mem_map.mp mem
      exact counts k hk
    owed := fun c owed => ⟨(h.owed c owed).1, fun l mem => by
      obtain ⟨k, hk, rfl⟩ := List.mem_map.mp mem
      exact (ranges k).1 ▸ (h.owed c owed).2 k hk⟩ }

/-- A change of every port that keeps its bounds and its foreground writes. -/
theorem mapPorts (f : Port → Port) (bounded : ∀ x : Port, x.Bounded → (f x).Bounded)
    (deferred : ∀ x : Port, (f x).deferred.Sublist x.deferred)
    (writes : ∀ x : Port, ∀ first last, (f x).writes first last = x.writes first last) : (s.mapPorts f).Sound := by
  have port (p : PortId) : (s.ports.map f).get p = f (s.port p) := s.port_mapPorts f p
  have relisted := h.relist (s.ports.map f) id (fun p => port p ▸ bounded _ (h.ports p))
    (fun p op mem => h.deferred p op ((deferred _).subset (port p ▸ mem))) (fun _ => ⟨rfl, rfl, rfl⟩) (fun l mem => by
      obtain ⟨count, iff⟩ := h.counts l mem
      refine ⟨count.trans (State.foregroundWrites_congr (t := s.mapPorts f) fun p => ?_).symm, iff⟩
      rw [State.port_mapPorts, writes])
  simp only [List.map_id] at relisted
  exact relisted

theorem orphanCtxs (cs : List CtxId) : (s.mapPorts (·.orphanCtxs cs)).Sound :=
  h.mapPorts _ (fun _ bounded => bounded.orphanCtxs cs) (fun _ => List.filter_sublist)
    (fun x first last => x.writes_orphanCtxs cs first last)

theorem orphanTags : (s.mapPorts Port.orphanTags).Sound :=
  h.mapPorts _ (fun _ bounded => bounded.orphanTags) (fun _ => .refl _) (fun x first last => x.writes_orphanTags first last)

/-- A change of a port that keeps its bounds and its foreground writes over the locks. -/
theorem setLists (p : PortId) (x : Port) (bounded : x.Bounded) (deferred : ∀ op ∈ x.deferred, op.fgWrite = false)
    (writes : ∀ l ∈ s.slt.locks, x.writes l.first l.last = (s.port p).writes l.first l.last) : (s.setPort p x).Sound := by
  have port (q : PortId) : (s.ports.set p x).get q = if p = q then x else s.port q := s.port_setPort p q x
  have relisted := h.relist (s.ports.set p x) id
    (fun q => by rw [port]; split; exacts [bounded, h.ports q])
    (fun q op mem => by rw [port] at mem; split at mem; exacts [deferred op mem, h.deferred q op mem])
    (fun _ => ⟨rfl, rfl, rfl⟩) (fun l mem => by
      obtain ⟨count, iff⟩ := h.counts l mem
      refine ⟨count.trans ?_, iff⟩
      have replaced := s.foregroundWrites_setPort p x l.first l.last
      rw [writes l mem] at replaced
      exact (Nat.add_right_cancel replaced).symm)
  simp only [List.map_id] at relisted
  exact relisted

/-- The issue rule (R20). -/
theorem issue (p : PortId) : (s.issue p).Sound := by
  rw [State.issue_eq]
  exact h.setLists p _ ((h.ports p).issuing _) (fun op mem => h.deferred p op (by rwa [Port.issuing_deferred] at mem))
    (fun _ _ => Port.writes_issuing ..)

/-- An operation outside the locks is admitted to a list with room (R18). -/
theorem enlist (p : PortId) (op : DriveOp) (room : (s.port p).list.length < Config.listBound)
    (outside : ∀ l ∈ s.slt.locks, op.writesIn l.first l.last = false) : (s.enlist p op).Sound :=
  State.Sound.issue (h.setLists p _ ((h.ports p).append room op) (h.deferred p)
    (fun l mem => by simp [Port.writes, outside l mem])) p

theorem countContext (c : CtxId) : (s.countContext c).Sound := by
  unfold State.countContext
  split
  · exact h
  · exact h.countForeground

/-- A context's offer (R18, R19). -/
theorem offerContext (c : CtxId) (p : PortId) (op : DriveOp) (made : op.maker = some c) (other : op.fgWrite = false) :
    (s.offerContext c p op).2.Sound := by
  rcases s.offerContext_cases c p op with ⟨-, e⟩ | ⟨-, room, e⟩ | ⟨-, -, none_, e⟩ | ⟨-, -, -, e⟩ <;> rw [e]
  · exact h
  · simp only [Port.hasRoom, Bool.and_eq_true, decide_eq_true_eq] at room
    exact (h.enlist p op room.2 (fun l _ => by simp [DriveOp.writesIn, other])).countContext c
  · refine h.setLists p _ ((h.ports p).defer made none_) (fun k mem => ?_) (fun _ _ => rfl)
    rcases List.mem_append.mp mem with old | last
    · exact h.deferred p k old
    · exact List.mem_singleton.mp last ▸ other
  · exact h

/-- The issue rule and the deferred admission after a departure (R19, R22). -/
theorem afterDeparture (p : PortId) : (s.afterDeparture p).Sound := by
  have issued := h.issue p
  unfold State.afterDeparture
  dsimp only
  split
  · exact issued
  · next op rest queue =>
    have other : op.fgWrite = false := issued.deferred p op (by simp [queue])
    split
    · next room =>
      have undeferred := issued.setLists p { (s.issue p).port p with deferred := rest }
        ((issued.ports p).undefer (by simp [queue])) (fun k mem => issued.deferred p k (by simp [queue, mem]))
        (fun _ _ => rfl)
      have admitted := undeferred.enlist p op (by simpa using room.2) (fun l _ => by simp [DriveOp.writesIn, other])
      split
      · exact admitted.countContext _
      · exact admitted
      · exact admitted
    · exact issued

theorem emptyDeferred (p : PortId) : (s.emptyDeferred p).2.Sound := by
  unfold State.emptyDeferred
  split
  · exact h
  · next op rest queue =>
    exact h.setLists p _ ((h.ports p).undefer (by simp [queue])) (fun k mem => h.deferred p k (by simp [queue, mem]))
      (fun _ _ => rfl)

/-! ## Departures -/

/-- Of the locks, which are apart, one alone is over a block (R62). -/
theorem lock_unique {l k : Lock} (hl : l ∈ s.slt.locks) (hk : k ∈ s.slt.locks) {addr : Nat}
    (inL : l.first ≤ addr ∧ addr ≤ l.last) (inK : k.first ≤ addr ∧ addr ≤ k.last) : k = l := by
  have : Std.Symm Lock.Apart := ⟨fun _ _ apart => ⟨apart.1.symm, fun both => apart.2 both.symm⟩⟩
  by_contra ne
  exact (h.apart.forall hk hl ne).2 (by omega)

theorem lock_of_ctx {l k : Lock} (hl : l ∈ s.slt.locks) (hk : k ∈ s.slt.locks) (same : k.ctx = l.ctx) : k = l := by
  have : Std.Symm Lock.Apart := ⟨fun _ _ apart => ⟨apart.1.symm, fun both => apart.2 both.symm⟩⟩
  by_contra ne
  exact (h.apart.forall hk hl ne).1 same

/-- A list changes, and with it the one lock whose count the change touches. -/
theorem setListsAndLock (p : PortId) (x : Port) (bounded : x.Bounded) (deferred : ∀ op ∈ x.deferred, op.fgWrite = false)
    {l : Lock} (hl : l ∈ s.slt.locks) (f : Lock → Lock)
    (ranges : ∀ k, (f k).ctx = k.ctx ∧ (f k).first = k.first ∧ (f k).last = k.last)
    (counts : (s.setPort p x).Counts (f l))
    (others : ∀ k ∈ s.slt.locks, k ≠ l → (s.setPort p x).foregroundWrites k.first k.last = s.foregroundWrites k.first k.last) :
    ({ s.setPort p x with slt := { s.slt with
      locks := s.slt.locks.map (fun k => if k.ctx = l.ctx then f k else k) } } : State).Sound := by
  have port (q : PortId) : (s.ports.set p x).get q = if p = q then x else s.port q := s.port_setPort p q x
  refine h.relist (s.ports.set p x) _
    (fun q => by rw [port]; split; exacts [bounded, h.ports q])
    (fun q k mem => by rw [port] at mem; split at mem; exacts [deferred k mem, h.deferred q k mem])
    (fun k => by split; exacts [ranges k, ⟨rfl, rfl, rfl⟩]) (fun k mem => ?_)
  split
  · next same => exact h.lock_of_ctx hl mem same ▸ counts
  · next other =>
    obtain ⟨count, iff⟩ := h.counts k mem
    exact ⟨count.trans (others k mem fun same => other (congrArg Lock.ctx same)).symm, iff⟩

/-- The report of a foreground write that has left a list: the lock over its block counts one fewer, and is GRANTED at
none (R65, R66). -/
theorem drainReport (p : PortId) (x : Port) {op : DriveOp} (bounded : x.Bounded)
    (deferred : ∀ k ∈ x.deferred, k.fgWrite = false) (foreground : op.fgWrite = true)
    (fewer : ∀ first last, (s.setPort p x).foregroundWrites first last +
      (if op.writesIn first last then 1 else 0) = s.foregroundWrites first last) :
    ((s.setPort p x).drainReport op.addr).2.Sound := by
  have inRange (l : Lock) : op.writesIn l.first l.last = true ↔ l.first ≤ op.addr ∧ op.addr ≤ l.last := by
    simp [DriveOp.writesIn, foreground]
  have apart {k : Lock} (outside : ¬ op.writesIn k.first k.last = true) :
      (s.setPort p x).foregroundWrites k.first k.last = s.foregroundWrites k.first k.last := by
    have same := fewer k.first k.last
    rwa [if_neg outside] at same
  rcases (s.setPort p x).drainReport_cases op.addr with ⟨none_, e⟩ | ⟨l, hl, drains, granted⟩
  · have outside (l : Lock) (mem : l ∈ s.slt.locks) : ¬ op.writesIn l.first l.last = true := fun inside => by
      obtain ⟨count, iff⟩ := h.counts l mem
      have one := fewer l.first l.last
      rw [if_pos inside] at one
      have draining : l.granted = false := Bool.eq_false_iff.mpr fun granted => by
        have := iff.1 granted
        omega
      have drains := none_ l mem
      simp [Lock.drains, draining, (inRange l).1 inside] at drains
    rw [e]
    refine h.setLists p x bounded deferred fun l mem => ?_
    have replaced := s.foregroundWrites_setPort p x l.first l.last
    rw [apart (outside l mem)] at replaced
    omega
  · simp only [Lock.drains, Bool.and_eq_true, Bool.not_eq_true', decide_eq_true_eq] at drains
    obtain ⟨⟨draining, first⟩, last⟩ := drains
    obtain ⟨count, iff⟩ := h.counts l hl
    have one := fewer l.first l.last
    rw [if_pos ((inRange l).2 ⟨first, last⟩)] at one
    have others (k : Lock) (mem : k ∈ s.slt.locks) (ne : k ≠ l) :=
      apart fun inside => ne (h.lock_unique hl mem ⟨first, last⟩ ((inRange k).1 inside))
    rcases granted with ⟨le, e⟩ | ⟨lt, e⟩ <;> rw [e]
    · refine h.setListsAndLock p x bounded deferred hl (fun k => { k with granted := true, drain := 0 })
        (fun _ => ⟨rfl, rfl, rfl⟩) ⟨?_, by simp⟩ others
      show 0 = (s.setPort p x).foregroundWrites l.first l.last
      omega
    · refine h.setListsAndLock p x bounded deferred hl (fun k => { k with drain := k.drain - 1 })
        (fun _ => ⟨rfl, rfl, rfl⟩) ⟨?_, ?_⟩ others
      · show l.drain - 1 = (s.setPort p x).foregroundWrites l.first l.last
        omega
      · simp only [draining, Bool.false_eq_true, false_iff]
        omega

/-- An operation that has left a list, and its report to the lock table (R23, R65). -/
theorem departed (p : PortId) (x : Port) (op : DriveOp) (out : Outcome) (raise : Bool) (bounded : x.Bounded)
    (deferred : x.deferred = (s.port p).deferred)
    (writes : ∀ first last, x.writes first last + (if op.writesIn first last then 1 else 0) = (s.port p).writes first last) :
    ((s.setPort p x).departed p op out raise).2.Sound := by
  have notForeground : ∀ k ∈ x.deferred, k.fgWrite = false := fun k mem => h.deferred p k (deferred ▸ mem)
  rw [State.departed_eq]
  dsimp only
  split
  · next foreground =>
    refine h.drainReport p x bounded notForeground foreground fun first last => ?_
    have replaced := s.foregroundWrites_setPort p x first last
    have left := writes first last
    omega
  · next other =>
    have notForegroundWrite : op.fgWrite = false := by simpa using other
    exact h.setLists p x bounded notForeground fun l _ => by
      simpa [DriveOp.writesIn, notForegroundWrite] using writes l.first l.last

end State.Sound

end Sys2Proof.Machine
end

section
/-! SUPPORT. What leaves a list, a context or a lock: completions, expiries and emptied lists, freed contexts, lock requests
and hand-backs, each keeping the bounds and bonds (R22, R24, R29, R30, R63, R64, R69, R80, R95). -/
namespace Sys2Proof.Machine

namespace State.Sound

variable {s : State} (h : s.Sound)
include h

/-! ## Departures from a list -/

/-- An entry leaves its list. -/
theorem leaves (p : PortId) {e : ListEntry} {before after : List ListEntry}
    (split : (s.port p).list = before ++ e :: after) (out : Outcome) (raise : Bool) :
    ((s.setPort p { s.port p with list := before ++ after }).departed p e.op out raise).2.Sound := by
  refine h.departed p _ e.op out raise ((h.ports p).sublist ?_) rfl fun first last => ?_
  · rw [split]
    exact (List.Sublist.refl before).append (List.sublist_cons_self e after)
  · simp only [Port.writes, split, List.map_append, List.map_cons, List.countP_append, List.countP_cons]
    omega

/-- The first entry of a kind leaves its list. -/
theorem leavesFirst (p : PortId) {pred : ListEntry → Bool} {e : ListEntry} (found : (s.port p).list.find? pred = some e)
    (out : Outcome) (raise : Bool) :
    ((s.setPort p { s.port p with list := (s.port p).list.eraseP pred }).departed p e.op out raise).2.Sound := by
  obtain ⟨holds, before, after, split, none_⟩ := List.find?_eq_some_iff_append.mp found
  have erased : (s.port p).list.eraseP pred = before ++ after := by
    rw [split, List.eraseP_append_right _ (fun x mem => by simpa using none_ x mem), List.eraseP_cons_of_pos holds]
  rw [erased]
  exact h.leaves p split out raise

theorem driveCompletion (p : PortId) (id : Nat) (r : Report) : (s.driveCompletion p id r).2.Sound := by
  unfold State.driveCompletion
  split
  · exact h
  · next e found => exact h.leavesFirst p found (normalise p id e.op r) (decide (normalise p id e.op r = .fault))

theorem driveTimeout (p : PortId) (id : Nat) : (s.driveTimeout p id).2.Sound := by
  unfold State.driveTimeout
  split
  · exact h
  · next found => exact (h.advanceTo _).leavesFirst p found .missing true

theorem emptyList (p : PortId) : (s.emptyList p).2.Sound := by
  unfold State.emptyList
  split
  · exact h
  · next e rest list => exact h.leaves (before := []) p list .missing false

theorem emptyWaiting (p : PortId) : (s.emptyWaiting p).2.Sound := by
  unfold State.emptyWaiting
  split
  · exact h
  · next found => exact h.leavesFirst p found .missing false

/-! ## Released requests -/

/-- The oldest waiting request is taken out of the wait list and is ROUTING again (R80). -/
theorem releaseWaiting {tag : Nat} {rest : List Nat} (queue : s.engine.waitList = tag :: rest) :
    ({ s with engine := { s.engine with waitList := rest } }.setEntry tag (InFlight.toRouting .waiting)).Sound := by
  have nodup : (tag :: rest).Nodup := queue ▸ h.waiting.1
  have shorter : ({ s with engine := { s.engine with waitList := rest } } : State).Sound :=
    { h with waiting := h.waiting.sublist (queue ▸ List.sublist_cons_self tag rest) }
  refine shorter.setRouting tag (by decide) fun e mem same state => ?_
  rintro (queued | queued | queued)
  · exact h.held.not_mem h.tags mem (by simp [state]) (same ▸ queued)
  · exact (List.nodup_cons.mp nodup).1 queued
  · exact h.answered.not_mem h.tags mem (by simp [state]) (same ▸ queued)

/-- Contexts go FREE, with their locks and the requests held for them (R69). -/
theorem freeCtxs (cs : List CtxId) : (s.freeCtxs cs).Sound := by
  have blanked (c : CtxId) (other : c ∉ cs) : (s.blanked cs).get c = s.ctx c := by simp [State.blanked, other]
  have unlocked : ({ s with
      slt := { locks := s.slt.locks.filter (fun l => !cs.contains l.ctx)
               held := s.slt.held.filter (fun x => !cs.contains x.lock) }
      engine := { s.engine with
        ctxs := s.blanked cs, owed := s.engine.owed.filter (fun c => !cs.contains c) } } : State).Sound :=
    { h with
      held := h.held.sublist (List.filter_sublist.map _)
      heldBound := (List.length_filter_le ..).trans h.heldBound
      owner := fun l mem => by
        obtain ⟨mem, other⟩ := List.mem_filter.mp mem
        exact fun free => h.owner l mem ((congrArg Context.state (blanked l.ctx (by simpa using other))).symm.trans free)
      apart := h.apart.filter _
      counts := fun l mem => h.counts l (List.mem_of_mem_filter mem)
      owed := fun c owed => by
        obtain ⟨owed, other⟩ := Option.filter_eq_some_iff.mp owed
        exact ⟨fun free =>
            (h.owed c owed).1 ((congrArg Context.state (blanked c (by simpa using other))).symm.trans free),
          fun l mem => (h.owed c owed).2 l (List.mem_of_mem_filter mem)⟩ }
  rw [State.freeCtxs_eq]
  refine unlocked.mapTable _ fun e mem => ?_
  split
  · next released =>
    unfold InFlight.toRouting
    split
    · next state =>
      refine State.allows_of_not_inQueue ?_ rfl rfl rfl (InFlight.openMember_of_state rfl (by simp [state]))
      rintro (queued | queued | queued)
      · obtain ⟨x, hx, tagX⟩ := List.mem_map.mp released
        obtain ⟨y, hy, tagY⟩ := List.mem_map.mp queued
        obtain ⟨memX, freed⟩ := List.mem_filter.mp hx
        obtain ⟨memY, stays⟩ := List.mem_filter.mp hy
        rw [List.inj_on_of_nodup_map h.held.1 memX memY (tagX.trans tagY.symm)] at freed
        rw [freed] at stays
        cases stays
      · exact h.waiting.not_mem h.tags mem (by simp [state]) queued
      · exact h.answered.not_mem h.tags mem (by simp [state]) queued
    · exact .refl _ e
  · exact .refl _ e

theorem abandon (cs : List CtxId) : (s.abandon cs).Sound := (h.orphanCtxs cs).freeCtxs cs

theorem routeIssued (tags : List Nat) : (tags.foldl (fun t tag => t.setEntry tag (InFlight.toRouting .issued)) s).Sound := by
  induction tags generalizing s with
  | nil => exact h
  | cons tag tags ih => exact ih (h.setRoutingIssued tag)

theorem endEarly (c : CtxId) : (s.endEarly c).2.Sound := ((h.orphanCtxs [c]).routeIssued _).freeCtxs [c]

theorem endNormally (c : CtxId) : (s.endNormally c).2.Sound := (h.withSticky _).freeCtxs [c]

/-! ## Lock requests -/

/-- A context without a lock that owes none goes back to FREE, or hands its request back (R64). -/
theorem handBack (c : CtxId) (lockless : ∀ l ∈ s.slt.locks, l.ctx ≠ c) (notOwed : s.engine.owed ≠ some c) :
    (s.handBack c).2.Sound := by
  have other (d : CtxId) (ne : d ≠ c) : (s.setCtx c (.blank (s.ctx c).serial)).ctx d = s.ctx d :=
    State.ctx_setCtx_ne s ne.symm _
  have freed : (s.setCtx c (.blank (s.ctx c).serial)).Sound :=
    { h with
      owner := fun l mem => other l.ctx (lockless l mem) ▸ h.owner l mem
      owed := fun d owed => ⟨other d (fun same => notOwed (same ▸ owed)) ▸ (h.owed d owed).1, (h.owed d owed).2⟩ }
  rcases s.handBack_cases c with ⟨tag, -, e⟩ | ⟨-, e⟩ <;> rw [e]
  · exact freed.withoutCtx tag
  · exact freed

/-- A lock over an unlocked stripe joins the table with the count of its foreground writes (R63). -/
theorem addLock (c : CtxId) (stripe : Nat) (inUse : (s.ctx c).state ≠ .free) (lockless : ∀ l ∈ s.slt.locks, l.ctx ≠ c)
    (notOwed : s.engine.owed ≠ some c) (unlocked : s.locked stripe = false) {l : Lock} (ctx : l.ctx = c)
    (first : l.first = s.firstBlock stripe) (last : l.last = s.lastBlock stripe) (counts : s.Counts l) :
    ({ s with slt := { s.slt with locks := s.slt.locks ++ [l] } } : State).Sound :=
  { h with
    owner := fun k mem => by
      rcases List.mem_append.mp mem with old | new
      · exact h.owner k old
      · rw [List.mem_singleton.mp new, ctx]; exact inUse
    apart := by
      refine List.pairwise_append.mpr ⟨h.apart, List.pairwise_singleton _ _, fun a mem b new => ?_⟩
      rw [List.mem_singleton.mp new, Lock.Apart, ctx, first, last]
      refine ⟨lockless a mem, fun ⟨before, after⟩ => ?_⟩
      have apart := List.any_eq_false.mp unlocked a mem
      simp [Lock.overlaps, before, after] at apart
    counts := fun k mem => by
      rcases List.mem_append.mp mem with old | new
      · exact h.counts k old
      · rw [List.mem_singleton.mp new]; exact counts
    owed := fun d owed => ⟨(h.owed d owed).1, fun k mem => by
      rcases List.mem_append.mp mem with old | new
      · exact (h.owed d owed).2 k old
      · rw [List.mem_singleton.mp new, ctx]; exact fun same => notOwed (same ▸ owed)⟩ }

/-- A context in use without a lock that owes none requests its lock (R63). -/
theorem lockRequest (c : CtxId) (inUse : (s.ctx c).state ≠ .free) (lockless : ∀ l ∈ s.slt.locks, l.ctx ≠ c)
    (notOwed : s.engine.owed ≠ some c) : (s.lockRequest c).2.Sound := by
  rcases s.lockRequest_cases c with ⟨-, e⟩ | ⟨unlocked, -, e⟩ | ⟨unlocked, -, e⟩ <;> rw [e]
  · exact h.handBack c lockless notOwed
  all_goals exact h.addLock c (s.ctx c).stripe inUse lockless notOwed unlocked rfl rfl rfl ⟨rfl, by simp⟩

theorem askLock : s.askLock.2.Sound := by
  rcases s.askLock_cases with ⟨-, e⟩ | ⟨c, -, -, e⟩ | ⟨c, owed, -, -, e⟩ <;> rw [e]
  · exact h
  · exact h.withoutOwed
  · exact h.withoutOwed.lockRequest c (h.owed c owed).1 (h.owed c owed).2 (by simp)

theorem lockDue : s.lockDue.2.Sound := by
  rcases s.lockDue_cases with ⟨-, e⟩ | ⟨-, -, e⟩ | ⟨-, -, e⟩ <;> rw [e]
  · exact h
  · exact h.withLate _
  · exact (h.withLate _).askLock

theorem rejoin (tag : Nat) : (s.rejoin tag).Sound := by
  rcases s.rejoin_cases tag with e | ⟨e, place, found, issued, -, -, -, eq⟩
  · rw [e]; exact h
  · rw [eq]; exact h.hold found (.inr issued)

/-- A FREE context has no lock and owes none. -/
theorem lockless_of_free {c : CtxId} (free : (s.ctx c).state = .free) :
    (∀ l ∈ s.slt.locks, l.ctx ≠ c) ∧ s.engine.owed ≠ some c :=
  ⟨fun l mem same => h.owner l mem (same ▸ free), fun owed => (h.owed c owed).1 free⟩

end State.Sound

end Sys2Proof.Machine
end

section
/-! SUPPORT. Notices, port failures and the transitions of the rebuild job keep the bounds and bonds (chapters 2, 6, 8, 9). -/
namespace Sys2Proof.Machine

namespace State.Sound

variable {s : State} (h : s.Sound)
include h

/-! ## Notices and job states -/

theorem notify (n : Notice) : (s.notify n).Sound := by
  rcases s.notify_cases n with ⟨-, e⟩ | ⟨-, e⟩ <;> rw [e]
  · exact h
  · exact (h.withNotices _ (by exact offerNotice_length _ n h.notices) (by exact h.milestones)).transmit

theorem jobTo (st : JobState) (cause : JobCause) : (s.jobTo st cause).Sound := by
  rcases s.jobTo_cases st cause with ⟨-, e⟩ | ⟨-, e⟩ <;> rw [e]
  · exact h.withJob _ (by exact h.ahead)
  · exact (h.withJob _ (by exact h.ahead)).notify _

theorem jobIdle (cause : JobCause) : (s.jobIdle cause).Sound := (h.withJob _ (by exact h.ahead)).jobTo _ _

theorem answerStop (st : Status) : (s.answerStop st).Sound := by
  rcases s.answerStop_cases st with ⟨-, e⟩ | ⟨tag, -, ⟨-, e⟩ | ⟨-, e⟩⟩ <;> rw [e]
  · exact h
  · exact (h.withJob _ (by exact h.ahead)).answer _ _
  · exact ((h.withJob _ (by exact h.ahead)).latch st).answer _ _

theorem notifyAll {α : Type} (f : α → Notice) (l : List α) : (l.foldl (fun t a => t.notify (f a)) s).Sound := by
  induction l generalizing s with
  | nil => exact h
  | cons a l ih => exact ih (h.notify (f a))

theorem fireMilestones (w : Nat) : (s.fireMilestones w).Sound :=
  State.Sound.notifyAll
    (h.withNotices _ (by exact h.notices) (by exact (List.dropWhile_suffix _).length_le.trans h.milestones))
    (fun m : Milestone => .milestone m.tag w) _

theorem advanceW (w : Nat) : (s.advanceW w).Sound := by
  have set := h.withJob { s.job with w, ahead := s.job.ahead.filter (fun t => w ≤ t) }
    ((List.length_filter_le ..).trans h.ahead)
  unfold State.advanceW
  dsimp only
  split
  · exact set.fireMilestones w
  · exact set

/-! ## Ports -/

/-- A change of a port's role or bound mark. -/
theorem setMark (p : PortId) (role : Role) (bound : Bool) : (s.setPort p { s.port p with role, bound }).Sound :=
  h.setPort p _ rfl rfl (h.ports p).errors

theorem setHealth (p : PortId) (link : Bool) (health : Health) : (s.setPort p { s.port p with link, health }).Sound :=
  h.setPort p _ rfl rfl (h.ports p).errors

theorem setRole (p : PortId) (r : Role) : (s.setRole p r).Sound :=
  (h.withTarget _ (by rfl) (by exact h.commands)).setMark p r _

theorem failPort (p : PortId) (reason : FailReason) : (s.failPort p reason).2.Sound := by
  have failed := h.setHealth p (s.port p).link .failed
  unfold State.failPort
  dsimp only
  split
  · exact failed
  · exact failed.notify _

theorem countError (p : PortId) : (s.countError p).2.Sound := by
  have counted := h.setPort p { s.port p with errors := min ((s.port p).errors + 1) Config.errorBound } rfl rfl
    (Nat.min_le_right _ _)
  unfold State.countError
  dsimp only
  split
  · exact counted.failPort p .errors
  · exact counted

theorem linkDown (p : PortId) : (s.linkDown p).2.Sound := by
  have down := h.setHealth p false (s.port p).health
  unfold State.linkDown
  dsimp only
  repeat' split
  · exact down.failPort p .link
  · exact down.setHealth p _ .absent
  · exact down

theorem linkUp (p : PortId) : (s.linkUp p).Sound := h.setHealth p true _

/-! ## Completion, retirement, starting -/

theorem roleExchange (t : Nat) (p : PortId) : (s.roleExchange t p).Sound := by
  unfold State.roleExchange
  dsimp only
  split
  · next q _ =>
    have exchanged := (h.setRole q .unused).setRole p (.member t)
    exact exchanged.setMark p _ false
  · have exchanged := h.setRole p (.member t)
    exact exchanged.setMark p _ false

theorem complete : s.complete.Sound := by
  unfold State.complete
  split
  · next t p _ _ =>
    have exchanged := (h.fireMilestones s.job.w).roleExchange t p
    exact (((exchanged.withJob _ (Nat.zero_le _)).notify _).notify _).answerStop _
  · exact h

theorem retired (stripe : Nat) : (s.retired stripe).Sound :=
  (h.withJob { s.job with window := retireWindow s.job.window stripe } h.ahead).advanceW _

theorem retire (stripe : Nat) : (s.retire stripe).Sound := by
  have retired := h.retired stripe
  rcases s.retire_cases stripe with ⟨e, -⟩ | ⟨-, -, -, e⟩ | ⟨-, -, e⟩ <;> rw [e]
  · exact retired
  · exact retired.complete
  · exact (retired.jobTo _ _).answerStop _

theorem skipCursor : s.skipCursor.Sound := by
  have moved := h.withJob { s.job with n := s.job.n + 1 } h.ahead
  unfold State.skipCursor
  dsimp only
  split
  · exact moved.advanceW _
  · exact moved

theorem begun (m : Nat) (p : PortId) (r : Nat) (fresh : Bool) : (s.begun m p r fresh).Sound := by
  have set := h.withNotices { s.notices with milestones := s.notices.milestones.filter (fun e => r < e.target) } h.notices
    ((List.length_filter_le ..).trans h.milestones)
  cases fresh
  · exact set.withJob { s.job with w := r, n := r, settle := none, armed := none } h.ahead
  · exact (set.withJob
      { s.job with w := r, n := r, settle := none, armed := none, target := some m, spare := some p } h.ahead).setMark p
        (s.port p).role true

theorem start (m : Nat) (p : PortId) (r : Nat) (cause : JobCause) (fresh : Bool) : (s.start m p r cause fresh).Sound := by
  rw [State.start_eq]
  split
  · exact (h.begun m p r fresh).complete
  · exact (h.begun m p r fresh).jobTo _ _

theorem armIfDue : s.armIfDue.Sound := by
  rcases s.armIfDue_cases with e | ⟨m, -, -, -, e⟩ <;> rw [e]
  · exact h
  · exact (h.withJob _ (by exact h.ahead)).jobTo _ _

theorem arm : s.arm.2.Sound := h.armIfDue

theorem settleExpiry : s.settleExpiry.2.Sound := by
  unfold State.settleExpiry
  repeat' split
  · exact h.start ..
  · exact h.jobIdle _
  · exact h

/-! ## Second fault, spare loss, abandonment -/

theorem secondFault : s.secondFault.2.Sound := by
  have dropped := (h.abandon s.sweepCtxs).dropWindow
  exact ((dropped.withJob _ (Nat.zero_le _)).jobTo _ _).answerStop _

theorem unbind : s.unbind.Sound := by
  unfold State.unbind
  split
  · next p _ => exact h.setMark p _ false
  · exact h

theorem jobEnds (cause : JobCause) : (s.jobEnds cause).Sound := by
  have dropped := h.dropWindow.unbind
  exact ((dropped.withJob _ (by exact dropped.ahead)).jobIdle cause).answerStop _

theorem spareLoss : s.spareLoss.2.Sound := by
  have back : s.withHandedBack.Sound := h.routeIssued _
  rw [State.spareLoss_state]
  exact ((back.abandon _).jobEnds .spareLost).armIfDue

theorem abandonJob : s.abandonJob.2.Sound := (h.abandon _).jobEnds .command

theorem sequencerFailure (p : PortId) : (s.sequencerFailure p).2.Sound := by
  unfold State.sequencerFailure
  split
  · exact h.spareLoss
  · split
    · exact h
    · split
      case h_5 =>
        split
        · exact h
        · exact h.jobIdle _
      case h_6 => exact h.arm
      case h_7 => exact h.arm
      case h_8 => exact h
      all_goals
        split
        · exact h
        · exact h.secondFault

/-! ## The lost block list -/

theorem appendLost (e : LostEntry) : (s.appendLost e).Sound := by
  have listed := (h.withLost { entries := s.lost.entries ++ [e], reservations := s.lost.reservations - 1 }).notify
    (.lostAdded e.stripe e.items.length)
  unfold State.appendLost
  dsimp only
  repeat' split
  · exact (listed.notify .lostFull).jobTo _ _
  · exact listed.notify .lostFull
  · exact listed

end State.Sound

end Sys2Proof.Machine
end

section
/-! SUPPORT. The reconstruction engine, the sweep and the router keep the bounds and bonds (chapters 3 to 6). -/
namespace Sys2Proof.Machine

/-- An appended lost entry changes no context. -/
theorem State.ctx_appendLost (s : State) (e : LostEntry) (c : CtxId) : (s.appendLost e).ctx c = s.ctx c := by
  unfold State.appendLost
  dsimp only
  repeat' split
  all_goals simp [State.ctx]

theorem insertStripe_length (t : Nat) (l : List Nat) : (insertStripe t l).length ≤ l.length + 1 := by
  induction l with
  | nil => rfl
  | cons u us ih =>
    unfold insertStripe
    split
    · rfl
    · split
      · exact Nat.le_succ _
      · simpa using ih

namespace State.Sound

variable {s : State} (h : s.Sound)
include h

/-! ## Peer reads -/

/-- A change of a context that leaves its state. -/
theorem setCtxSame (c : CtxId) (x : Context) (state : x.state = (s.ctx c).state) : (s.setCtx c x).Sound :=
  h.setCtx c x fun inUse => state ▸ inUse

theorem portFinal (c : CtxId) (p : PortId) (lanes : List Lane) (source : Bool) : (s.portFinal c p lanes source).2.Sound :=
  h.setCtxSame c _ (by rfl)

theorem missingInput (c : CtxId) (p : PortId) : (s.missingInput c p).2.Sound := h.portFinal ..

theorem offerRead (c : CtxId) (p : PortId) : (s.offerContext c p (s.readOp c)).2.Sound := h.offerContext c p _ rfl rfl

theorem offerReads (c : CtxId) (ps : List PortId) : (Machine.offerReads c ps s).2.Sound := by
  induction ps generalizing s with
  | nil => exact h
  | cons p ps ih =>
    unfold Machine.offerReads
    dsimp only
    repeat' split
    · exact h.endEarly c
    · exact ih (h.missingInput c p)
    · exact ih (h.offerRead c p)

theorem startReading (c : CtxId) : (s.startReading c).2.Sound :=
  State.Sound.offerReads (h.setCtx c _ fun _ => by simp) c _

theorem readMissing (c : CtxId) (p : PortId) : (s.readMissing c p).2.Sound := by
  unfold State.readMissing
  dsimp only
  repeat' split
  · exact State.Sound.offerRead (h.setCtxSame c _ (by rfl)) c p
  · exact h.missingInput c p
  · exact h.endEarly c
  · exact h.missingInput c p

theorem readOutcome (c : CtxId) (p : PortId) (out : Outcome) : (s.readOutcome c p out).2.Sound := by
  unfold State.readOutcome
  split
  · exact h.portFinal ..
  · exact h.portFinal ..
  · exact h.readMissing c p
  · exact h.readMissing c p

/-! ## Results and spare operations -/

theorem deliverResult (c : CtxId) : (s.deliverResult c).Sound := by
  unfold State.deliverResult
  dsimp only
  repeat' split
  · exact h
  · exact h
  · exact h
  · exact h.answer _ _

theorem setWriting (c : CtxId) : (s.setCtx c { s.ctx c with state := .writing }).Sound := h.setCtx c _ fun _ => by simp

theorem lanesFinal (c : CtxId) : (s.lanesFinal c).2.Sound := by
  have formed := h.setCtxSame c { s.ctx c with
    classes := (s.ctx c).lanes.map Lane.class, flags := (s.ctx c).flags.or (laneCauses (s.ctx c).lanes) } rfl
  unfold State.lanesFinal
  dsimp only
  split
  · exact formed.setWriting c
  · exact (formed.deliverResult c).endNormally c
  · have answered := (formed.deliverResult c).setCtxSame c { (State.deliverResult _ c).ctx c with origin := .noRequest } rfl
    split
    · exact answered.endNormally c
    · exact answered.setWriting c

theorem spareGone (c : CtxId) : (s.spareGone c).2.Sound := by
  unfold State.spareGone
  split
  · exact h.endNormally c
  · exact h.setCtxSame c _ rfl

theorem offerSpare (c : CtxId) : (s.offerSpare c).2.Sound := by
  unfold State.offerSpare
  dsimp only
  split
  · exact h
  · next p _ =>
    have offered : (s.offerContext c p (s.spareOp c)).2.Sound := by
      refine h.offerContext c p _ ?_ ?_ <;> unfold State.spareOp <;> dsimp only <;> split <;> rfl
    split
    · split
      · exact h.spareGone c
      · exact h.setCtxSame c _ (by rfl)
    · exact offered.setCtxSame c _ rfl

theorem spareMissing (c : CtxId) (p : PortId) : (s.spareMissing c p).2.Sound := by
  unfold State.spareMissing
  dsimp only
  split
  · exact h.spareGone c
  · exact h.setCtxSame c _ (by rfl)

/-! ## Context ends -/

theorem reported (c : CtxId) : (s.reported c).Sound := by
  have flagged := h.withSticky (s.engine.sticky.or (s.ctx c).flags)
  unfold State.reported
  dsimp only
  split
  · exact (flagged.appendLost _).setCtxSame c _ (by rw [State.ctx_appendLost]; rfl)
  · exact flagged.releaseReservation.setCtxSame c _ (by rfl)

theorem sweepEnd (c : CtxId) : (s.sweepEnd c).2.Sound := by
  rcases s.sweepEnd_cases c with e | ⟨t, -, e⟩ <;> rw [e]
  · exact h
  · exact (h.reported c).retire t

theorem sweepFree (c : CtxId) (serial : Nat) : (s.sweepFree c serial).2.Sound := by
  unfold State.sweepFree
  dsimp only
  split
  · exact h.freeCtxs [c]
  · exact h

theorem insertAhead (c : CtxId) : (s.insertAhead c).Sound := by
  unfold State.insertAhead
  dsimp only
  split
  · next room => exact h.withJob _ (by exact (insertStripe_length ..).trans room.2.2.2.2)
  · exact h

theorem writeGood (c : CtxId) : (s.writeGood c).2.Sound := by
  unfold State.writeGood
  dsimp only
  repeat' split
  · exact h.setCtx c _ fun _ => by simp
  · exact h.sweepEnd c
  · exact (h.insertAhead c).endNormally c

theorem ctxOutcome (c : CtxId) (serial : Nat) (p : PortId) (out : Outcome) : (s.ctxOutcome c serial p out).2.Sound := by
  unfold State.ctxOutcome
  dsimp only
  split
  · exact h
  · split
    · exact h.readOutcome c p _
    · exact h.writeGood c
    · exact h.sweepEnd c
    · exact h.spareMissing c p
    · exact h.spareMissing c p
    · exact h.spareMissing c p
    · exact h.spareMissing c p
    all_goals exact h

theorem launch (c : CtxId) : (s.launch c).Sound := by
  have moved : ({ s with
      job := { s.job with
        window := s.job.window ++ [({ stripe := s.job.n, done := false } : WindowEntry)], n := s.job.n + 1 }
      lost := { s.lost with reservations := s.lost.reservations + 1 }
      pacing := { s.pacing with credit := s.pacing.credit - s.width } } : State).Sound := { h with }
  exact moved.setCtx c _ fun _ => by simp [Context.taken]

theorem examine : s.examine.2.Sound := by
  rcases s.examine_cases with e | ⟨-, -, -, e⟩ | ⟨-, -, -, e⟩ | ⟨c, -, -, -, found, e⟩ <;> rw [e]
  · exact h
  · exact h.skipCursor
  · exact h.complete
  · have free := h.lockless_of_free (State.sweepCtx_free found)
    refine (h.launch c).lockRequest c ?_ free.1 free.2
    simp [State.launch, Context.taken]

end State.Sound

end Sys2Proof.Machine
end

section
/-! SUPPORT. The router keeps the bounds and bonds (R46 to R57, R63, R67, R78, R80). -/
namespace Sys2Proof.Machine

/-- The context of a request is taken into LOCKING (R49). -/
theorem State.requestCtx_state (s : State) (c : CtxId) (e : InFlight) (place : Place) (kind : CtxKind) (mask : List PortId)
    (target : Option PortId) (tm : Option Nat) : (s.requestCtx c e place kind mask target tm).state = .locking := by
  unfold State.requestCtx
  split <;> rfl

namespace State.Sound

variable {s : State} (h : s.Sound)
include h

/-- A request in ROUTING or ISSUED changes its state. -/
theorem setOpen {tag : Nat} {e : InFlight} (found : s.entry? tag = some e) (stands : e.state = .routing ∨ e.state = .issued)
    (f : InFlight → InFlight) (keeps : (f e).tag = e.tag ∧ (f e).addr = e.addr ∧ (f e).place = e.place ∧ (f e).op = e.op) :
    (s.setEntry tag f).Sound := by
  obtain ⟨mem, rfl⟩ := State.mem_of_entry? found
  obtain ⟨tag, addr, place, op⟩ := keeps
  refine h.setLoose found ?_ f ⟨tag, addr, place⟩ (InFlight.openMember_of_state op ?_)
  · apply h.not_inQueue mem <;> rcases stands with state | state <;> simp [state]
  · rcases stands with state | state <;> simp [state]

/-- A context in use without a lock owes its lock request (R63). -/
theorem withOwed (c : CtxId) (inUse : (s.ctx c).state ≠ .free) (lockless : ∀ l ∈ s.slt.locks, l.ctx ≠ c) :
    ({ s with engine := { s.engine with owed := some c } } : State).Sound :=
  { h with
    owed := fun d owed => by
      cases owed
      exact ⟨inUse, lockless⟩ }

/-- The operation of a request at an unlocked stripe is no foreground write under a lock (R8, R67). -/
theorem driveOp_outside {e : InFlight} (mem : e ∈ s.table) (routing : e.state = .routing) {x : Place}
    (placed : e.place = some x) (unlocked : e.op = .write → s.locked x.stripe = false) {l : Lock} (hl : l ∈ s.slt.locks) :
    e.driveOp.writesIn l.first l.last = false := by
  refine Bool.eq_false_iff.mpr fun inside => ?_
  simp only [DriveOp.writesIn, Bool.and_eq_true, decide_eq_true_eq] at inside
  obtain ⟨⟨foreground, first⟩, last⟩ := inside
  have write : e.op = .write := by simpa [InFlight.driveOp] using foreground
  have addr : e.driveOp.addr = e.addr := rfl
  have range := h.place e mem (by simp [InFlight.openMember, write, routing]) x placed
  have apart := List.any_eq_false.mp (unlocked write) l hl
  simp only [Lock.overlaps, Bool.and_eq_true, decide_eq_true_eq] at apart
  omega

theorem forwardTo {e : InFlight} (p : PortId) (found : s.entry? e.tag = some e) (routing : e.state = .routing)
    (outside : ∀ l ∈ s.slt.locks, e.driveOp.writesIn l.first l.last = false) : (s.forwardTo e p).2.Sound := by
  unfold State.forwardTo
  rcases s.offerForeground_cases p e.driveOp with ⟨-, eq⟩ | ⟨-, room, eq⟩ | ⟨-, -, eq⟩ <;> rw [eq]
  · exact h.setOpen found (.inl routing) _ ⟨rfl, rfl, rfl, rfl⟩
  · simp only [Port.hasRoom, Bool.and_eq_true, decide_eq_true_eq] at room
    have admitted := (h.enlist p e.driveOp room.2 outside).countForeground
    refine admitted.setOpen (e := e) ?_ (.inl routing) _ ⟨rfl, rfl, rfl, rfl⟩
    rw [State.entry?, State.countForeground_table, State.enlist_table]
    exact found
  · exact h.answer _ _

theorem reconstruct {e : InFlight} (found : s.entry? e.tag = some e) (routing : e.state = .routing)
    (owesNone : s.engine.owed = none) (place : Place) (kind : CtxKind) (mask : List PortId) (target : Option PortId)
    (tm : Option Nat) (offered : Bool) : (s.reconstruct e place kind mask target tm offered).2.Sound := by
  unfold State.reconstruct
  split
  · next c taken =>
    have free : (s.ctx c).state = .free := by
      split at taken
      · exact State.foregroundCtx_free taken
      · cases taken
    have locking := s.requestCtx_state c e place kind mask target tm
    have took := (h.setCtx c (s.requestCtx c e place kind mask target tm) fun _ => by simp [locking]).setOpen
      (e := e) found (.inl routing) (fun x => { x with state := .issued, ctx := some c }) ⟨rfl, rfl, rfl, rfl⟩
    have late := took.withLate s.engine.late.tail
    have lockless := (h.lockless_of_free free).1
    have inUse : ((s.setCtx c (s.requestCtx c e place kind mask target tm)).ctx c).state ≠ .free := by simp [locking]
    dsimp only
    split
    · exact late.withOwed c inUse lockless
    · exact late.lockRequest c inUse lockless (by
        show s.engine.owed ≠ some c
        simp [owesNone])
  · exact h.wait found routing

theorem decideRoute {e : InFlight} (found : s.entry? e.tag = some e) (routing : e.state = .routing)
    (owesNone : s.engine.owed = none) {place : Place} (placed : e.place = some place) (offered : Bool) :
    (s.decideRoute e place offered).2.Sound := by
  unfold State.decideRoute
  split
  · exact h.answer _ _
  · next p _ =>
    split
    · exact h.hold found (.inl routing)
    · next free =>
      have unlocked (write : e.op = .write) : s.locked place.stripe = false := by
        simpa [State.lockHolds, write] using free
      split
      · exact h.forwardTo _ found routing fun l hl =>
          h.driveOp_outside (State.mem_of_entry? found).1 routing placed unlocked hl
      · exact h.reconstruct found routing owesNone ..
      · exact h.answer _ _
      · exact h.answer _ _

theorem route (tag : Nat) (offered : Bool) : (s.route tag offered).2.Sound := by
  unfold State.route
  split
  · exact h
  · next owes =>
    split
    · exact h
    · next e found =>
      obtain ⟨-, rfl⟩ := State.mem_of_entry? found
      split
      · next place routing placed => exact h.decideRoute found routing (by simpa using owes) placed offered
      · exact h

theorem arbitrate : s.arbitrate.2.Sound := by
  unfold State.arbitrate
  split
  · next queue _ =>
    split
    · exact h
    · exact h.releaseWaiting queue
  · exact h

theorem routerOutcome (tag : Nat) (p : PortId) (op : DriveOp) (out : Outcome) : (s.routerOutcome tag p op out).2.Sound := by
  have failed {e : InFlight} (found : s.entry? tag = some e) (issued : ¬ e.state ≠ .issued) :
      (if (s.port p).health = .failed then
        (([.route tag false], s.setEntry tag (fun x => { x.toRouting .issued with data := op.payload.data })) :
          List Work × State)
        else ([], s.answer tag (.plain .timeout))).2.Sound := by
    have state : e.state = .issued := by simpa using issued
    split
    · refine h.setOpen found (.inr state) _ ?_
      simp [InFlight.toRouting, state]
    · exact h.answer _ _
  unfold State.routerOutcome
  split
  · exact h
  · next e found =>
    split
    · exact h
    · next issued =>
      split
      · exact h.answer _ _
      · exact h.answer _ _
      · exact failed found issued
      · exact failed found issued

theorem deliver (p : PortId) (op : DriveOp) (out : Outcome) : (s.deliver p op out).2.Sound := by
  unfold State.deliver
  split
  · exact h
  · exact h.routerOutcome ..
  · exact h.ctxOutcome ..

end State.Sound

end Sys2Proof.Machine
end

section
/-! SUPPORT. The management target, the channel port, the resets and the end of a step keep the bounds and bonds (chapters
3, 10 and 11), and so every step does. -/
namespace Sys2Proof.Machine

/-- A list of milestones holds one for every five bytes (R177). -/
theorem milestonesOf_length (bs : List Byte) : 5 * (milestonesOf bs).length ≤ bs.length := by
  induction bs using milestonesOf.induct with
  | case1 a b c d t rest ih =>
    rw [milestonesOf]
    simp only [List.length_cons]
    omega
  | case2 bs h =>
    rw [milestonesOf]
    · simp
    · exact h

/-- A milestone table that passes its checks has at most sixteen entries (R144, R145). -/
theorem parseMilestones_length {ps : List Byte} {count : Nat} {ms : List Milestone}
    (parsed : parseMilestones ps count = .ok ms) : ms.length ≤ Config.milestoneBound := by
  unfold parseMilestones at parsed
  split at parsed
  · cases parsed
  · next n rest =>
    split at parsed
    · cases parsed
    · next form =>
      split at parsed
      · cases parsed
      · cases parsed
        have := milestonesOf_length rest
        omega

/-- A request that passes the geometry checks has its first block in its stripe (R8, R9). -/
theorem State.geometry_ok {s : State} {addr count : Nat} {x : Place} (checked : s.geometry addr count = .ok x) :
    s.firstBlock (s.placeOf addr).stripe ≤ addr ∧ addr ≤ s.lastBlock (s.placeOf addr).stripe := by
  unfold State.geometry at checked
  split at checked
  · cases checked
  · split at checked
    · cases checked
    · split at checked
      · cases checked
      · next some_ _ span =>
        simp only [State.placeOf, State.firstBlock, State.lastBlock] at span ⊢
        have := Nat.div_mul_le_self addr s.stripBlocks
        omega

/-! ## Resets -/

theorem Port.afterReset_bounded (link : Bool) (nextId : Nat) : (Port.afterReset link nextId).Bounded where
  list := Nat.zero_le _
  outstanding := Nat.zero_le _
  errors := Nat.zero_le _
  deferred := Nat.zero_le _
  makers := ⟨.nil, by simp [Port.afterReset]⟩

/-- After a power-on or bridge reset nothing is queued, listed or locked (R38, R61, R74, R97). -/
theorem State.resetAs_sound (s : State) (kind : ResetKind) (frames : List Frame) : (s.resetAs kind frames).Sound := by
  have port (p : PortId) : (s.resetAs kind frames).port p = .afterReset (s.port p).link (s.port p).nextId :=
    s.port_mapPorts (fun x => .afterReset x.link x.nextId) p
  exact
    { tags := .nil
      range := fun _ mem => nomatch mem
      held := ⟨.nil, fun _ mem => nomatch mem⟩
      waiting := ⟨.nil, fun _ mem => nomatch mem⟩
      answered := ⟨.nil, fun _ mem => nomatch mem⟩
      heldBound := Nat.zero_le _
      refusals := Nat.zero_le _
      ahead := Nat.zero_le _
      notices := Nat.zero_le _
      milestones := Nat.zero_le _
      commands := Nat.zero_le _
      fg := Nat.zero_le _
      ports := fun p => port p ▸ Port.afterReset_bounded _ _
      owner := fun _ mem => nomatch mem
      apart := .nil
      counts := fun _ mem => nomatch mem
      deferred := fun p op mem => by rw [port] at mem; cases mem
      place := fun _ mem => nomatch mem
      owed := fun _ owed => nomatch owed }

namespace State.Sound

variable {s : State} (h : s.Sound)
include h

/-- The table, its queues and the target's commands are emptied; what was forwarded goes on without its request (R60). -/
theorem channelReset : s.channelReset.Sound := by
  have orphans := h.orphanTags
  have state (c : CtxId) : (s.channelReset.ctx c).state = (s.ctx c).state := by
    simp only [State.channelReset, State.ctx, Vector.get_map]
    unfold Context.dropRequest
    split <;> rfl
  exact
    { orphans with
      tags := .nil
      range := fun _ mem => nomatch mem
      held := ⟨.nil, fun _ mem => nomatch mem⟩
      waiting := ⟨.nil, fun _ mem => nomatch mem⟩
      answered := ⟨.nil, fun _ mem => nomatch mem⟩
      heldBound := Nat.zero_le _
      refusals := Nat.zero_le _
      notices := Nat.zero_le _
      commands := Nat.zero_le _
      owner := fun l mem => state l.ctx ▸ h.owner l mem
      place := fun _ mem => nomatch mem
      owed := fun c owed => ⟨state c ▸ (h.owed c owed).1, (h.owed c owed).2⟩ }

/-! ## Frames sent and new requests -/

theorem responseSent : s.responseSent.Sound := by
  unfold State.responseSent
  split
  · next r rest _ queue =>
    have tail : rest.Sublist s.channel.responses := queue ▸ List.sublist_cons_self r rest
    have sent : ({ s with channel := { s.channel with responses := rest, tx := .idle } } : State).Sound :=
      { h with
        refusals := (tail.countP_le).trans h.refusals
        answered := h.answered.sublist (tail.filterMap _) }
    dsimp only
    split
    · exact sent
    · next tag =>
      split
      · exact State.resetAs_sound ..
      · refine sent.dropEntry tag ?_
        have tags : s.answeredTags = tag :: rest.filterMap (·.entryTag) := by
          simp [State.answeredTags, queue, QueuedResponse.entryTag]
        obtain ⟨e, mem, rfl, answered⟩ := h.answered.2 tag (by simp [tags])
        have nodup := tags ▸ h.answered.1
        rintro (queued | queued | queued)
        · exact h.held.not_mem h.tags mem (by simp [answered]) queued
        · exact h.waiting.not_mem h.tags mem (by simp [answered]) queued
        · exact (List.nodup_cons.mp nodup).1 queued
  · exact h

theorem noticeSent : s.noticeSent.Sound := by
  unfold State.noticeSent
  split
  · exact h.withChannel _ rfl
  all_goals exact h

theorem gapElapses : s.gapElapses.Sound := by
  unfold State.gapElapses
  split
  · exact h.advanceTo _
  · exact h

theorem tickExpiry : s.tickExpiry.2.Sound := by
  unfold State.tickExpiry
  dsimp only
  split
  · exact (h.advanceTo _).withPacing _ h.fg
  · exact (h.advanceTo _).periodEnd _

/-- An entry that is changed and then answered (R41). -/
theorem changedAnswer {tag : Nat} {e : InFlight} (found : s.entry? tag = some e) (answerable : e.answerable = true)
    (g : InFlight → InFlight) (keeps : ∀ x, (g x).tag = x.tag) (state : (g e).answerable = true) (r : Response) :
    ((s.setEntry tag g).answer tag r).Sound := by
  rcases (s.setEntry tag g).answer_cases tag r with ⟨unanswerable, -⟩ | ⟨-, -, -, eq⟩
  · rw [State.entry?_setEntry keeps, found, Option.map_some, if_pos (State.mem_of_entry? found).2] at unanswerable
    rw [Option.any_some, state] at unanswerable
    cases unanswerable
  · rw [eq, State.setEntry_setEntry (g := g) keeps (fun _ => rfl)]
    exact h.setAnswered found answerable _ (keeps e) rfl

/-- A new member request goes through its slot and its geometry (R44, R45, R9). -/
theorem newMember {e : InFlight} (found : s.entry? e.tag = some e) (routing : e.state = .routing) :
    (s.newMember e).2.Sound := by
  have answerable : e.answerable = true := by simp [InFlight.answerable, routing]
  unfold State.newMember
  split
  · exact h.answer _ _
  · exact h.answer _ _
  · split
    · exact h.answer _ _
    · dsimp only
      split
      · exact h.changedAnswer found answerable _ (by intro x; rfl) answerable _
      · next checked =>
        refine h.setEntry e.tag _ fun x mem same => ?_
        obtain rfl : x = e := h.entry_unique (State.mem_of_entry? found).1 mem same
        refine ⟨rfl, fun _ _ y placed => ?_, fun _ => rfl⟩
        cases placed
        exact State.geometry_ok checked

theorem placeCommand (tag : Nat) (record : List Byte) : (s.placeCommand tag record).2.Sound := by
  unfold State.placeCommand
  split
  · exact h.withTarget _ (by rfl) (by exact h.commands)
  · split
    · next room => exact h.withTarget _ (by rfl) (by simpa using room)
    · exact (h.latch _).answer _ _

theorem newManage {e : InFlight} (found : s.entry? e.tag = some e) (routing : e.state = .routing) (record : List Byte) :
    (s.newManage e record).2.Sound := by
  unfold State.newManage
  split
  · exact State.Sound.placeCommand (h.setOpen found (.inl routing) _ ⟨rfl, rfl, rfl, rfl⟩) _ _
  · exact h.answer _ _
  · exact h.answer _ _

theorem takeFrame (room : s.channel.refusals < Config.refusalBound) (f : Frame) : (s.takeFrame f).2.Sound := by
  have new (e : InFlight) (range : ¬ Config.tagBound < e.tag) (free : ¬ (s.entry? e.tag).isSome = true) (place : e.place = none) :
      (s.addEntry e).Sound ∧ (s.addEntry e).entry? e.tag = some e := by
    have free : s.entry? e.tag = none := by simpa using free
    exact ⟨h.addEntry e (Nat.le_of_not_lt range) free place, State.entry?_addEntry free⟩
  unfold State.takeFrame
  split
  · exact h.refuseFrame room ..
  · exact h.refuseFrame room ..
  · next op hd len data =>
    split
    · exact h.refuseFrame room ..
    · next form =>
      split
      · exact h.refuseFrame room ..
      · next free =>
        obtain ⟨added, found⟩ := new (newEntry op.reqOp hd (if op = .write then data else [])) (fun big => form (.inl big)) free rfl
        exact added.newMember found rfl
  · next hd record =>
    split
    · exact h.refuseFrame room ..
    · next form =>
      split
      · exact h.refuseFrame room ..
      · next free =>
        obtain ⟨added, found⟩ := new (newEntry .manage hd []) (fun big => form (.inl big)) free rfl
        exact added.newManage found rfl record

end State.Sound

end Sys2Proof.Machine
end

section
/-! SUPPORT. The management commands and the end of a step keep the bounds and bonds (chapter 10), and so every internal
effect and every step does. -/
namespace Sys2Proof.Machine

namespace State.Sound

variable {s : State} (h : s.Sound)
include h

/-! ## Answers and the commands that read -/

theorem mgmtAnswer (tag : Nat) (r : Response) : (s.mgmtAnswer tag r).2.Sound := h.answer tag r

theorem mgmtGood (tag : Nat) : (s.mgmtGood tag).2.Sound := h.answer _ _

theorem mgmtRefuse (tag : Nat) (st : Status) : (s.mgmtRefuse tag st).2.Sound := (h.latch st).answer _ _

theorem nextCommand : s.nextCommand.2.Sound := by
  unfold State.nextCommand
  split
  · exact h.withTarget _ (by rfl) (by exact h.commands)
  · next waiting =>
    have commands := h.commands
    rw [waiting] at commands
    exact h.withTarget _ (by rfl) (by exact Nat.le_of_succ_le commands)

/-- A command without parameters is refused with some, and else answers a record. -/
theorem readCommand (tag : Nat) (ps bytes : List Byte) :
    (if ps ≠ [] then s.mgmtRefuse tag .format else s.mgmtResult tag bytes).2.Sound := by
  split
  · exact h.mgmtRefuse _ _
  · exact h.mgmtAnswer _ _

/-! ## Maps -/

theorem takeLoadMap (tag : Nat) (ps : List Byte) : (s.takeLoadMap tag ps).2.Sound := by
  unfold State.takeLoadMap
  split
  · exact h.mgmtRefuse _ _
  · exact State.Sound.mgmtGood (h.withTarget _ (by rfl) (by exact h.commands)) _

theorem setCurrent (current : Option (Nat × Phase)) : ({ s with target := { s.target with current } } : State).Sound :=
  h.withTarget _ (by rfl) (by exact h.commands)

theorem takeCommitMap (tag : Nat) (ps : List Byte) : (s.takeCommitMap tag ps).2.Sound := by
  unfold State.takeCommitMap
  split
  · exact h.mgmtRefuse _ _
  · split
    · exact h.mgmtRefuse _ _
    · split
      · exact h.mgmtRefuse _ _
      · exact h.setCurrent _

/-- A map is installed while no member request is open, so that none loses its place (R5, R45). -/
theorem installMap (drained : s.drained = true) : s.installMap.Sound := by
  have ported := h.withPorts (Vector.ofFn (fun p => (s.port p).installed (s.target.staged.roles.get p))) fun p => by
    rw [Vector.get_ofFn]
    exact ⟨rfl, rfl, (h.ports p).errors⟩
  have installed : ({ s with
      target := { s.target with committed := s.target.staged }
      ports := Vector.ofFn (fun p => (s.port p).installed (s.target.staged.roles.get p))
      job := { s.job with w := 0, n := 0, window := [], ahead := [] }
      notices := { s.notices with
        milestones := s.notices.milestones.filter (fun e => e.target ≤ s.target.staged.stripeCount) } } : State).Sound :=
    { ported with
      ahead := Nat.zero_le _
      milestones := (List.length_filter_le ..).trans h.milestones
      place := fun e mem opened => by
        have closed : ∀ e ∈ s.table, e.openMember = false := by simpa [State.drained] using drained
        rw [closed e mem] at opened
        cases opened }
  exact State.Sound.notifyAll (installed.jobIdle .command) (fun n : Notice => n) _

theorem installReport : s.installReport.2.Sound := by
  unfold State.installReport
  split
  · exact h
  · next tag ready =>
    have drained : s.drained = true := by
      unfold State.commitReady at ready
      split at ready
      · split at ready
        · assumption
        · cases ready
      · cases ready
    split
    · exact (h.installMap drained).mgmtGood _
    · exact h.mgmtRefuse _ _

/-! ## Settings -/

theorem takeSetPacing (tag : Nat) (ps : List Byte) : (s.takeSetPacing tag ps).2.Sound := by
  unfold State.takeSetPacing
  split
  · exact h.mgmtRefuse _ _
  · next r now _ =>
    have staged := h.withPacing { s.pacing with staged := r, stagedPending := true } h.fg
    dsimp only
    split
    · exact staged.periodEnd _
    · exact staged.mgmtGood _

theorem takeSetPolicy (tag : Nat) (ps : List Byte) : (s.takeSetPolicy tag ps).2.Sound := by
  unfold State.takeSetPolicy
  split
  · exact h.mgmtRefuse _ _
  · next x _ =>
    have set := h.withTarget { s.target with policy := x } rfl h.commands
    dsimp only
    split
    · exact set.jobIdle _
    · exact set

theorem takeSetNotices (tag : Nat) (ps : List Byte) : (s.takeSetNotices tag ps).2.Sound := by
  unfold State.takeSetNotices
  split
  · exact h.mgmtRefuse _ _
  · exact State.Sound.mgmtGood (h.withNotices _ (by exact h.notices) (by exact h.milestones)) _

theorem takeClearSticky (tag : Nat) (ps : List Byte) : (s.takeClearSticky tag ps).2.Sound := by
  have cleared : ({ s with
      engine := { s.engine with sticky := .none }
      notices := { s.notices with lost := false }
      target := { s.target with lastError := none } } : State).Sound := { h with }
  unfold State.takeClearSticky
  split
  · exact h.mgmtRefuse _ _
  · exact cleared.mgmtGood _

/-! ## The job and the ports -/

theorem takeStart (tag : Nat) (ps : List Byte) : (s.takeStart tag ps).2.Sound := by
  unfold State.takeStart
  split
  · exact h.mgmtRefuse _ _
  · split
    · exact h.mgmtRefuse _ _
    · exact h.start ..

theorem takeStop (tag : Nat) (ps : List Byte) : (s.takeStop tag ps).2.Sound := by
  have stop : (if s.job.window = [] then (s.jobTo .stopped .command).mgmtGood tag
      else (([.nextCommand], { s with job := { s.job with awaiting := some tag } }.jobTo .stopping .command) :
        List Work × State)).2.Sound := by
    split
    · exact (h.jobTo _ _).mgmtGood _
    · exact (h.withJob { s.job with awaiting := some tag } h.ahead).jobTo _ _
  unfold State.takeStop
  split
  · exact h.mgmtRefuse _ _
  · split
    · exact stop
    · exact stop
    · exact h.mgmtGood _
    · exact h.mgmtGood _
    all_goals exact h.mgmtRefuse _ _

theorem takeAbandon (tag : Nat) (ps : List Byte) : (s.takeAbandon tag ps).2.Sound := by
  unfold State.takeAbandon
  split
  · exact h.mgmtRefuse _ _
  · split
    · exact h.abandonJob.answer _ _
    · exact h.mgmtRefuse _ _

theorem takeFailMember (tag : Nat) (ps : List Byte) : (s.takeFailMember tag ps).2.Sound := by
  unfold State.takeFailMember
  split
  · split
    · exact h.mgmtRefuse _ _
    · split
      · exact h.mgmtRefuse _ _
      · split
        · exact h.failPort _ .command
        · exact h.mgmtGood _
  · exact h.mgmtRefuse _ _

theorem takeRestorePort (tag : Nat) (ps : List Byte) : (s.takeRestorePort tag ps).2.Sound := by
  unfold State.takeRestorePort
  split
  · split
    · exact h.mgmtRefuse _ _
    · next p _ =>
      split
      · exact h.mgmtRefuse _ _
      · have restored := h.setPort p (s.port p).restored rfl rfl (Nat.zero_le _)
        refine State.Sound.mgmtGood ?_ _
        split
        · exact restored.jobIdle _
        · exact restored
  · exact h.mgmtRefuse _ _

theorem takeClearHealth (tag : Nat) (ps : List Byte) : (s.takeClearHealth tag ps).2.Sound := by
  unfold State.takeClearHealth
  split
  · split
    · exact h.mgmtRefuse _ _
    · next p _ => exact (h.setPort p { s.port p with errors := 0 } rfl rfl (Nat.zero_le _)).mgmtGood _
  · exact h.mgmtRefuse _ _

/-! ## Milestones, the lost block list, the reset -/

theorem takeLoadMilestones (tag : Nat) (ps : List Byte) : (s.takeLoadMilestones tag ps).2.Sound := by
  unfold State.takeLoadMilestones
  split
  · exact h.mgmtRefuse _ _
  · next ms parsed =>
    exact State.Sound.mgmtGood (h.withNotices _ (by exact h.notices)
      (by exact (List.length_filter_le ..).trans (parseMilestones_length parsed))) _

theorem removeLost (count : Nat) : (s.removeLost count).Sound := by
  have removed := h.withLost { s.lost with entries := s.lost.entries.drop count }
  unfold State.removeLost
  dsimp only
  split
  · exact removed.jobTo _ _
  · exact removed

theorem takeTakeLost (tag : Nat) (ps : List Byte) : (s.takeTakeLost tag ps).2.Sound := by
  unfold State.takeTakeLost
  split
  · split
    · exact h.mgmtRefuse _ _
    · dsimp only
      split
      · exact h.mgmtAnswer _ _
      · exact h.removeLost _
  · exact h.mgmtRefuse _ _

theorem takeReset (tag : Nat) (ps : List Byte) : (s.takeReset tag ps).2.Sound := by
  unfold State.takeReset
  split
  · exact h.mgmtRefuse _ _
  · exact State.Sound.answer (h.setCurrent _) _ _

theorem takeCommand (tag : Nat) (record : List Byte) : (s.takeCommand tag record).2.Sound := by
  unfold State.takeCommand
  split
  · exact h.mgmtRefuse _ _
  · next code ps =>
    split
    · exact h.readCommand tag ps _
    · exact h.readCommand tag ps _
    · exact h.takeLoadMap tag ps
    · exact h.takeCommitMap tag ps
    · exact h.readCommand tag ps _
    · exact h.takeSetPacing tag ps
    · exact h.readCommand tag ps _
    · exact h.takeSetPolicy tag ps
    · exact h.takeStart tag ps
    · exact h.takeStop tag ps
    · exact h.takeAbandon tag ps
    · exact h.takeFailMember tag ps
    · exact h.takeRestorePort tag ps
    · exact h.takeClearHealth tag ps
    · exact h.takeLoadMilestones tag ps
    · exact h.readCommand tag ps _
    · exact h.takeTakeLost tag ps
    · exact h.takeSetNotices tag ps
    · exact h.takeClearSticky tag ps
    · exact h.takeReset tag ps
    · exact h.mgmtRefuse _ _

/-! ## The end of a step, and every effect -/

theorem settle : s.settle.2.Sound := by
  unfold State.settle
  split
  · exact h.installReport
  · split
    · exact h
    · split
      · exact h
      · split
        · exact h.transmit
        · next f rest _ =>
          split
          · next room => exact State.Sound.takeFrame (h.withChannel _ (by rfl)) (by exact room.2) f
          · exact h.transmit

theorem handle (w : Work) : (Machine.handle w s).2.Sound := by
  cases w with
  | route tag offered => exact h.route tag offered
  | askLock => exact h.askLock
  | lockDue => exact h.lockDue
  | rejoin tag => exact h.rejoin tag
  | startReading c => exact h.startReading c
  | lanesFinal c => exact h.lanesFinal c
  | offerSpare c => exact h.offerSpare c
  | sweepFree c serial => exact h.sweepFree c serial
  | deliver p op out => exact h.deliver p op out
  | afterDeparture p => exact h.afterDeparture p
  | countError p => exact h.countError p
  | sequencerFailure p => exact h.sequencerFailure p
  | emptyList p => exact h.emptyList p
  | emptyWaiting p => exact h.emptyWaiting p
  | emptyDeferred p => exact h.emptyDeferred p
  | arbiter => exact h.arbitrate
  | examine => exact h.examine
  | take tag record => exact h.takeCommand tag record
  | answer tag r => exact h.answer tag r
  | nextCommand => exact h.nextCommand
  | settleExpiry => exact h.settleExpiry
  | settle => exact h.settle

/-- A DRAINING lock counts at least one write, so that LOCK_GRANTED finds none to grant (R66). -/
theorem noGrantDue (c : CtxId) : s.slt.locks.any (fun l => l.ctx == c && !l.granted && l.drain == 0) = false := by
  refine List.any_eq_false.mpr fun l mem due => ?_
  simp only [Bool.and_eq_true, Bool.not_eq_true', beq_iff_eq] at due
  obtain ⟨⟨-, draining⟩, none_⟩ := due
  rw [(h.counts l mem).2.2 none_] at draining
  cases draining

/-- What a command's effects leave. -/
theorem cascade {work : List Work} {t : State} (e : Machine.cascade work s = .next t) : t.Sound :=
  cascade_keeps (fun w _ sound => sound.handle w) h e

theorem receive {f : Frame} {t : State} (e : Machine.receive f s = .next t) : t.Sound := by
  unfold Machine.receive at e
  split at e
  · exact State.Sound.cascade (h.withChannel _ (by rfl)) e
  · cases e; exact h

/-- Every command keeps the bounds and bonds. Unlike `KeptByCommands.exec`, LOCK_GRANTED is judged with its guard. -/
theorem exec {c : Instr} {t : State} (e : Machine.exec c s = .next t) : t.Sound := by
  have guarded {p : Prop} [Decidable p] {u : State} {work : List Work} (hu : u.Sound)
      (e : (if p then Machine.cascade work u else .next s) = .next t) : t.Sound := by
    split at e
    · exact hu.cascade e
    · cases e; exact h
  cases c with
  | mapInstallation => exact guarded h.installReport e
  | bridgeReset => exact (State.resetAs_sound s .bridge s.channel.linkFrames).cascade e
  | powerOnReset => cases e; exact State.resetAs_sound s .power []
  | channelReset => cases e; exact h.channelReset
  | upstreamLinkDown => cases e; exact h.withChannel _ rfl
  | upstreamLinkUp => exact State.Sound.cascade (h.withChannel { s.channel with up := true } rfl) e
  | driveLinkUp p => exact (h.linkUp p).cascade e
  | driveLinkDown p => exact (h.linkDown p).cascade e
  | driveCompletion p id r => exact guarded (h.driveCompletion p id r) e
  | driveTimeout p id => exact guarded (h.driveTimeout p id) e
  | settleTimerExpiry =>
    simp only [Machine.exec, execSettleTimerExpiry] at e
    split at e
    · exact (h.advanceTo _).cascade e
    · cases e; exact h
  | tick => exact h.tickExpiry.cascade e
  | periodEnd => exact ((h.advanceTo _).periodEnd _).cascade e
  | noticeGapElapsed => exact h.gapElapses.cascade e
  | responseFrameSent => exact guarded h.responseSent e
  | noticeFrameSent =>
    simp only [Machine.exec, execNoticeFrameSent] at e
    split at e
    · exact h.noticeSent.cascade e
    all_goals (cases e; exact h)
  | lockGranted c =>
    simp only [Machine.exec, execLockGranted, h.noGrantDue c] at e
    cases e; exact h
  | _ => exact h.receive e

end State.Sound

end Sys2Proof.Machine

open Sys2Proof Sys2Proof.Machine

/-- Settles O59: the four invariants are one, `State.Sound`, and every internal effect and every command keeps it. -/
theorem boundsKept : Obligations.BoundsKept := by
  intro s t before e
  rw [← State.sound_iff] at before ⊢
  unfold step at e
  split at e
  · cases e; exact before
  · exact (before.withPending _).exec e
end
